-- ==== Sys2Proof/Word.lean ====
section
/-! DEFINITION. The word types of the block and nothing else: register values, bytes, slave addresses, offsets (spec/00_scope.md R8). -/

namespace Sys2Proof

/-- A register value: REG_WIDTH = 32 bits, bit 0 least significant (R5, R8). -/
abbrev Word := BitVec 32

/-- A byte of the Data register, of the Outgoing Buffer, of the Incoming Queue (R26, R34, R35). -/
abbrev Byte := BitVec 8

/-- A 7-bit slave address, 0 to 127 (R60). -/
abbrev SlaveAddr := BitVec 7

/-- A byte offset inside the register window, 0x000 to 0x3FF (R60, R80). -/
abbrev Offset := BitVec 10

end Sys2Proof
end

