-- ==== Sys2Proof/Syntax.lean ====
section
/-! DEFINITION. The operations of the block: the 24 rows of spec/opcode_table.json, and the forms in which an operation reaches it (spec/30_encoding.md R80, R83). -/

namespace Sys2Proof

/-- The 24 operations of R83, one constructor per row of the table, in the table's order.
`v` is the 32-bit value written; `off` the offset of an access that reaches no register. -/
inductive Instr where
  | rdControl1
  | wrControl1 (v : Word)
  | rdControl2
  | wrControl2 (v : Word)
  | rdOwnAddress1
  | wrOwnAddress1 (v : Word)
  | rdOwnAddress2
  | wrOwnAddress2 (v : Word)
  | rdData
  | wrData (v : Word)
  | rdStatus1
  | wrStatus1 (v : Word)
  | rdStatus2
  | wrStatus2 (v : Word)
  | rdClockControl
  | wrClockControl (v : Word)
  | rdRiseTime
  | wrRiseTime (v : Word)
  | rdNoiseFilter
  | wrNoiseFilter (v : Word)
  | rdUnmapped (off : Offset)
  | wrUnmapped (off : Offset) (v : Word)
  | quiesce
  | reset
  deriving DecidableEq, Repr

/-- The operation's mnemonic in spec/opcode_table.json. -/
def Instr.mnemonic : Instr → String
  | .rdControl1 => "RD_Control1"
  | .wrControl1 _ => "WR_Control1"
  | .rdControl2 => "RD_Control2"
  | .wrControl2 _ => "WR_Control2"
  | .rdOwnAddress1 => "RD_OwnAddress1"
  | .wrOwnAddress1 _ => "WR_OwnAddress1"
  | .rdOwnAddress2 => "RD_OwnAddress2"
  | .wrOwnAddress2 _ => "WR_OwnAddress2"
  | .rdData => "RD_Data"
  | .wrData _ => "WR_Data"
  | .rdStatus1 => "RD_Status1"
  | .wrStatus1 _ => "WR_Status1"
  | .rdStatus2 => "RD_Status2"
  | .wrStatus2 _ => "WR_Status2"
  | .rdClockControl => "RD_ClockControl"
  | .wrClockControl _ => "WR_ClockControl"
  | .rdRiseTime => "RD_RiseTime"
  | .wrRiseTime _ => "WR_RiseTime"
  | .rdNoiseFilter => "RD_NoiseFilter"
  | .wrNoiseFilter _ => "WR_NoiseFilter"
  | .rdUnmapped _ => "RD_Unmapped"
  | .wrUnmapped _ _ => "WR_Unmapped"
  | .quiesce => "QUIESCE"
  | .reset => "RESET"

/-- The four kinds of operation (R80). -/
inductive OpKind where
  | rd
  | wr
  | quiesce
  | reset
  deriving DecidableEq, Repr

/-- "An operation is then the pair (selector, data), 12 + 32 bits" (R80):
selector[11:10] is the kind, selector[9:0] the offset. -/
structure OpWord where
  selector : BitVec 12
  data : Word
  deriving DecidableEq, Repr

/-- The width of a bus access (R61). -/
inductive Width where
  | byte
  | half
  | word
  deriving DecidableEq, Repr

/-- What the environment issues: a bus access, or one of the events QUIESCE and RESET (R6, R80).
`offset` counts from the base of the window and may lie outside it (R61, log 10, log 11); `width` and
`offset` mean nothing for the two events, `data` nothing but for a write. -/
structure Access where
  kind : OpKind
  width : Width
  offset : Nat
  data : Word
  deriving DecidableEq, Repr

/-- The ten registers of the window (R21). -/
inductive RegName where
  | control1
  | control2
  | ownAddress1
  | ownAddress2
  | data
  | status1
  | status2
  | clockControl
  | riseTime
  | noiseFilter
  deriving DecidableEq, Repr

/-- The offsets of the register map (R21). -/
def RegName.offset : RegName → Offset
  | .control1 => 0x000
  | .control2 => 0x004
  | .ownAddress1 => 0x008
  | .ownAddress2 => 0x00C
  | .data => 0x010
  | .status1 => 0x014
  | .status2 => 0x018
  | .clockControl => 0x01C
  | .riseTime => 0x020
  | .noiseFilter => 0x024

/-- The ten registers in the order of the map (R21). -/
def RegName.all : List RegName :=
  [.control1, .control2, .ownAddress1, .ownAddress2, .data, .status1, .status2, .clockControl, .riseTime, .noiseFilter]

/-- The ten offsets that hold a register; every other offset of the window holds none (R21, R67). -/
def registerOffsets : List Offset := RegName.all.map RegName.offset

end Sys2Proof
end

