-- ==== Sys2Proof/Config.lean ====
section
/-! DEFINITION. The implementation parameters of spec/00_scope.md R5 and the uninterpreted constants that stand for what the spec leaves open. -/

namespace Sys2Proof

/-- SUBWORD_POLICY (R5, R61): 8-bit and 16-bit accesses are refused, or handed to a bus-layer translation. -/
inductive SubwordPolicy where
  | refuse
  | translate
  deriving DecidableEq, Repr

/-- The parameters a model takes (R5, R40). `slaves` is the set of keys of SLAVES: the registry maps an address to at
most one device (R200), and of a device only its answers matter here, so the keys are the whole of it; a repeated key
changes nothing. `base` is BASE (R62): where the platform places the window; no operation reads it. -/
structure Params where
  base : Nat
  slaves : List SlaveAddr
  readCount : Nat
  maskOwnAddress1 : Word
  maskOwnAddress2 : Word
  maskClockControl : Word
  maskRiseTime : Word
  maskNoiseFilter : Word
  afReadClears : Bool
  dmaRxPulseRequiresDmaEn : Bool
  subwordPolicy : SubwordPolicy
  deriving DecidableEq, Repr

/-- A bus-layer translation of one narrow access (R61, R63, D2, D3): which 32-bit register operations it makes, one
after another, each chosen from the values that its reads before it returned, and what the access itself returns. So it
can read, merge and write, and place a narrow read's result. That it has this form is the model's choice (log 9): the
spec leaves the form open. -/
inductive BusProgram where
  /-- The access is over; `result` is what a narrow read returns, and is nothing to a narrow write. -/
  | done (result : Word)
  /-- A 32-bit read at an offset of the window, and what follows when it returns a value. -/
  | rd (off : Offset) (next : Word → BusProgram)
  /-- A 32-bit write at an offset of the window, and what follows. -/
  | wr (off : Offset) (v : Word) (next : BusProgram)
  deriving Inhabited

/-- BASE is OPEN (R5, R62, D4): an uninterpreted constant (log 5, log 11). -/
opaque Config.base : Nat

/-- SLAVES is OPEN (R5): an uninterpreted constant (log 5). -/
opaque Config.slaves : List SlaveAddr

/-- READ_COUNT is OPEN (R5, D18): an uninterpreted constant (log 5). -/
opaque Config.readCount : Nat

/-- Free value: what the n-th `Read` call of a run returns when State holds no answer for it (R13, log 6). -/
opaque Config.slaveAnswer : Nat → List Byte

/-- Free value: the bus layer's translation of each narrow access, taken when SUBWORD_POLICY is translate (R61, D2, D3).
The model's choices in it (log 9): it depends on the access alone and keeps no state from one access to the next; it makes
reads and writes of the window only, never QUIESCE or RESET; it ends. -/
opaque Config.busLayer : Access → BusProgram

/-- DEVICE_SIZE: "Device size: 0x400 bytes" (R5). -/
def Config.deviceSize : Nat := 0x400

/-- The parameters at power-on: the defaults of R5, and the uninterpreted constants where R5 says OPEN. -/
def Config.powerOn : Params where
  base := Config.base
  slaves := Config.slaves
  readCount := Config.readCount
  maskOwnAddress1 := 0xFFFFFFFF
  maskOwnAddress2 := 0xFFFFFFFF
  maskClockControl := 0xFFFFFFFF
  maskRiseTime := 0xFFFFFFFF
  maskNoiseFilter := 0xFFFFFFFF
  afReadClears := true
  dmaRxPulseRequiresDmaEn := false
  subwordPolicy := .refuse

end Sys2Proof
end

