-- ==== Sys2Proof/WellFormed.lean ====
section
/-! DEFINITION. Which terms of the syntax the block can be given: an unmapped access names no register (spec/40_register_bank.md R118), a bus access is 32 bits wide and inside the window (spec/20_memory.md R61). -/

namespace Sys2Proof

/-- The offset holds no register (R64, R67, R118). -/
def isUnmapped (off : Offset) : Bool := !registerOffsets.contains off

/-- `rdUnmapped` and `wrUnmapped` carry "any value 0x000..0x3FF that is not one of the ten register offsets"
(R118, R119); every other operation is well formed as it stands, since its operands' types carry their widths. -/
def Instr.wf : Instr → Bool
  | .rdUnmapped off => isUnmapped off
  | .wrUnmapped off _ => isUnmapped off
  | .rdControl1 => true
  | .wrControl1 _ => true
  | .rdControl2 => true
  | .wrControl2 _ => true
  | .rdOwnAddress1 => true
  | .wrOwnAddress1 _ => true
  | .rdOwnAddress2 => true
  | .wrOwnAddress2 _ => true
  | .rdData => true
  | .wrData _ => true
  | .rdStatus1 => true
  | .wrStatus1 _ => true
  | .rdStatus2 => true
  | .wrStatus2 _ => true
  | .rdClockControl => true
  | .wrClockControl _ => true
  | .rdRiseTime => true
  | .wrRiseTime _ => true
  | .rdNoiseFilter => true
  | .wrNoiseFilter _ => true
  | .quiesce => true
  | .reset => true

/-- A host access is an operation of the block when it is 32 bits wide and at an offset below DEVICE_SIZE = 0x400
(R61); the two events always are. -/
def Access.wf (a : Access) : Bool :=
  match a.kind with
  | .rd => a.width == .word && decide (a.offset < 0x400)
  | .wr => a.width == .word && decide (a.offset < 0x400)
  | .quiesce => true
  | .reset => true

end Sys2Proof
end

