-- ==== Sys2Proof/Decode.lean ====
section
/-! DEFINITION. From a bus access to an operation and back: routing (spec/20_memory.md R61), decoding (spec/30_encoding.md R81, R83), the opcode table as data, and the encoder. -/

namespace Sys2Proof

/-- selector[11:10] = kind: 00 RD, 01 WR, 10 QUIESCE, 11 RESET (R80). -/
def OpKind.code : OpKind → BitVec 2
  | .rd => 0b00
  | .wr => 0b01
  | .quiesce => 0b10
  | .reset => 0b11

/-- The kind field of a selector (R80). -/
def kindOf (sel : BitVec 12) : OpKind :=
  if sel.extractLsb' 10 2 = 0b00#2 then .rd
  else if sel.extractLsb' 10 2 = 0b01#2 then .wr
  else if sel.extractLsb' 10 2 = 0b10#2 then .quiesce
  else .reset

/-- The offset field of a selector (R80). -/
def offsetOf (sel : BitVec 12) : Offset := sel.extractLsb' 0 10

/-- The register at an offset: "an exact match of the offset with one of the ten offsets" (R64). -/
def registerAt (off : Offset) : Option RegName := RegName.all.find? fun r => r.offset == off

/-- The read of a register (R83). -/
def readOf : RegName → Instr
  | .control1 => .rdControl1
  | .control2 => .rdControl2
  | .ownAddress1 => .rdOwnAddress1
  | .ownAddress2 => .rdOwnAddress2
  | .data => .rdData
  | .status1 => .rdStatus1
  | .status2 => .rdStatus2
  | .clockControl => .rdClockControl
  | .riseTime => .rdRiseTime
  | .noiseFilter => .rdNoiseFilter

/-- The write of a register (R83). -/
def writeOf (v : Word) : RegName → Instr
  | .control1 => .wrControl1 v
  | .control2 => .wrControl2 v
  | .ownAddress1 => .wrOwnAddress1 v
  | .ownAddress2 => .wrOwnAddress2 v
  | .data => .wrData v
  | .status1 => .wrStatus1 v
  | .status2 => .wrStatus2 v
  | .clockControl => .wrClockControl v
  | .riseTime => .wrRiseTime v
  | .noiseFilter => .wrNoiseFilter v

/-- A read at an offset: the register's, else RD_Unmapped (R81, R83). -/
def decodeRead (off : Offset) : Instr :=
  match registerAt off with
  | some r => readOf r
  | none => .rdUnmapped off

/-- A write at an offset: the register's, else WR_Unmapped (R81, R83). -/
def decodeWrite (off : Offset) (v : Word) : Instr :=
  match registerAt off with
  | some r => writeOf v r
  | none => .wrUnmapped off v

/-- "Every 12-bit selector therefore decodes to exactly one operation; decoding is total" (R81). The offset field of
QUIESCE and RESET is ignored (R80); the data of a read is absent, so it is ignored too. -/
def decode (o : OpWord) : Instr :=
  match kindOf o.selector with
  | .rd => decodeRead (offsetOf o.selector)
  | .wr => decodeWrite (offsetOf o.selector) o.data
  | .quiesce => .quiesce
  | .reset => .reset

/-- The selector (match column of R83) and data of an operation; 0 where the operation has no data. -/
def encode : Instr → OpWord
  | .rdControl1 => ⟨0x000, 0⟩
  | .wrControl1 v => ⟨0x400, v⟩
  | .rdControl2 => ⟨0x004, 0⟩
  | .wrControl2 v => ⟨0x404, v⟩
  | .rdOwnAddress1 => ⟨0x008, 0⟩
  | .wrOwnAddress1 v => ⟨0x408, v⟩
  | .rdOwnAddress2 => ⟨0x00C, 0⟩
  | .wrOwnAddress2 v => ⟨0x40C, v⟩
  | .rdData => ⟨0x010, 0⟩
  | .wrData v => ⟨0x410, v⟩
  | .rdStatus1 => ⟨0x014, 0⟩
  | .wrStatus1 v => ⟨0x414, v⟩
  | .rdStatus2 => ⟨0x018, 0⟩
  | .wrStatus2 v => ⟨0x418, v⟩
  | .rdClockControl => ⟨0x01C, 0⟩
  | .wrClockControl v => ⟨0x41C, v⟩
  | .rdRiseTime => ⟨0x020, 0⟩
  | .wrRiseTime v => ⟨0x420, v⟩
  | .rdNoiseFilter => ⟨0x024, 0⟩
  | .wrNoiseFilter v => ⟨0x424, v⟩
  | .rdUnmapped off => ⟨OpKind.rd.code ++ off, 0⟩
  | .wrUnmapped off v => ⟨OpKind.wr.code ++ off, v⟩
  | .quiesce => ⟨0x800, 0⟩
  | .reset => ⟨0xC00, 0⟩

/-- One row of spec/opcode_table.json: "A row matches an operation when `selector ∧ mask = match`" (R81). -/
structure OpcodeRow where
  mnemonic : String
  pattern : BitVec 12
  mask : BitVec 12
  deriving DecidableEq, Repr

/-- The twenty rows with mask 0xFFF, one register and one direction each (R83). -/
def exactRows : List OpcodeRow :=
  [⟨"RD_Control1", 0x000, 0xFFF⟩, ⟨"WR_Control1", 0x400, 0xFFF⟩,
   ⟨"RD_Control2", 0x004, 0xFFF⟩, ⟨"WR_Control2", 0x404, 0xFFF⟩,
   ⟨"RD_OwnAddress1", 0x008, 0xFFF⟩, ⟨"WR_OwnAddress1", 0x408, 0xFFF⟩,
   ⟨"RD_OwnAddress2", 0x00C, 0xFFF⟩, ⟨"WR_OwnAddress2", 0x40C, 0xFFF⟩,
   ⟨"RD_Data", 0x010, 0xFFF⟩, ⟨"WR_Data", 0x410, 0xFFF⟩]
  ++ [⟨"RD_Status1", 0x014, 0xFFF⟩, ⟨"WR_Status1", 0x414, 0xFFF⟩,
   ⟨"RD_Status2", 0x018, 0xFFF⟩, ⟨"WR_Status2", 0x418, 0xFFF⟩,
   ⟨"RD_ClockControl", 0x01C, 0xFFF⟩, ⟨"WR_ClockControl", 0x41C, 0xFFF⟩,
   ⟨"RD_RiseTime", 0x020, 0xFFF⟩, ⟨"WR_RiseTime", 0x420, 0xFFF⟩,
   ⟨"RD_NoiseFilter", 0x024, 0xFFF⟩, ⟨"WR_NoiseFilter", 0x424, 0xFFF⟩]

/-- The four rows with mask 0xC00 (R83); RD_Unmapped and WR_Unmapped are the defaults, tried last (R81, log 3). -/
def kindRows : List OpcodeRow :=
  [⟨"RD_Unmapped", 0x000, 0xC00⟩, ⟨"WR_Unmapped", 0x400, 0xC00⟩,
   ⟨"QUIESCE", 0x800, 0xC00⟩, ⟨"RESET", 0xC00, 0xC00⟩]

/-- `selector ∧ mask = match` (R81). -/
def OpcodeRow.covers (r : OpcodeRow) (sel : BitVec 12) : Bool := (sel &&& r.mask) == r.pattern

/-- The row of a selector: the exact rows first, then the others (R81). -/
def rowOf (sel : BitVec 12) : Option OpcodeRow :=
  (exactRows.find? fun r => r.covers sel) <|> (kindRows.find? fun r => r.covers sel)

/-- Why an access is not an operation of the block (R61). -/
inductive RouteError where
  /-- an 8-bit or 16-bit access -/
  | narrow
  /-- an offset of 0x400 or more -/
  | outside
  deriving DecidableEq, Repr

/-- The operation an access is, or why it is none: the window ends at DEVICE_SIZE, and the block has 32-bit operations
only (R61). An access that is both narrow and outside is outside: the interconnect does not route it here. -/
def route (a : Access) : Except RouteError OpWord :=
  match a.kind with
  | .quiesce => .ok ⟨OpKind.quiesce.code ++ 0#10, 0⟩
  | .reset => .ok ⟨OpKind.reset.code ++ 0#10, 0⟩
  | .rd =>
    if Config.deviceSize ≤ a.offset then .error .outside
    else if a.width = .word then .ok ⟨OpKind.rd.code ++ BitVec.ofNat 10 a.offset, 0⟩
    else .error .narrow
  | .wr =>
    if Config.deviceSize ≤ a.offset then .error .outside
    else if a.width = .word then .ok ⟨OpKind.wr.code ++ BitVec.ofNat 10 a.offset, a.data⟩
    else .error .narrow

/-- Route an access and decode it. -/
def decodeAccess (a : Access) : Except RouteError Instr :=
  match route a with
  | .ok o => .ok (decode o)
  | .error e => .error e

/-- The 32-bit access that carries an operation: the fields of the pair laid out for the bus (R80). -/
def accessOf (o : OpWord) : Access :=
  ⟨kindOf o.selector, .word, (offsetOf o.selector).toNat, o.data⟩

/-- An operation as one number of 44 bits: the selector in bits 11:0, where the opcode table has it, the data in bits
43:12 (log 2). -/
def OpWord.ofNat (w : Nat) : OpWord := ⟨BitVec.ofNat 12 w, BitVec.ofNat 32 (w >>> 12)⟩

/-- The host's reading of a table word: its low `nbits` bits, the rest 0; no operation has more than 44 bits. -/
def decodeTableWord (nbits w : Nat) : Option Instr :=
  if w % 2 ^ nbits < 2 ^ 44 then some (decode (OpWord.ofNat (w % 2 ^ nbits))) else none

end Sys2Proof
end

