-- ==== Sys2Proof/Machine/State.lean ====
section
/-! DEFINITION. The state of the block: everything spec/10_state.md R20 lists, the traces of R39, and the model's own fields that hold the inputs and parameters of a step. Plain data. -/

namespace Sys2Proof.Machine

/-- The Transaction State (R33). -/
inductive TxnState where
  | idle
  | awaitingAddress
  | awaitingData
  | receivingData
  deriving DecidableEq, Repr

/-- The four output lines (R37). -/
inductive Line where
  | eventInterrupt
  | errorInterrupt
  | dmaTransmit
  | dmaReceive
  deriving DecidableEq, Repr

/-- `Line[l]` for each line l (R37). -/
structure Lines where
  eventInterrupt : Bool
  errorInterrupt : Bool
  dmaTransmit : Bool
  dmaReceive : Bool
  deriving DecidableEq, Repr

/-- The deferred actions (R38, R192). -/
inductive Action where
  | recompute
  | dataWriteDone
  | dmaRxPulse
  deriving DecidableEq, Repr

/-- The kinds of diagnostic event (R12). -/
inductive DiagKind where
  | invalidStateWrite
  | emptyQueueRead
  | unmappedAccess
  deriving DecidableEq, Repr

/-- One call to a slave, as SlaveLog records it (R39). -/
inductive SlaveCall where
  | read (addr : SlaveAddr) (count : Nat) (bytes : List Byte)
  | write (addr : SlaveAddr) (bytes : List Byte)
  deriving DecidableEq, Repr

/-- Why the machine stops with a fault. The block itself has no fault (R210). -/
inductive Fault where
  /-- Raised by a START whose flush finds no selected slave (R143's precondition) and by a read of Data whose refill
  finds none (R202's precondition). R44 shows that no run reaches such a state. Safe: the model stops where the spec
  gives no effect (log 12). -/
  | noSelectedSlave
  deriving DecidableEq, Repr

/-- Why a step is refused. -/
inductive Refusal where
  /-- Raised by no arm of exec: every operation has its meaning. Safe. -/
  | notModelled (mnemonic : String)
  /-- Raised by step for an 8-bit or 16-bit access under SUBWORD_POLICY = refuse (R61, U10). Safe (log 9). -/
  | narrowAccess
  /-- Raised by step for an access at an offset of 0x400 or more, which is not an operation of the block (R61, U13).
  Safe (log 10). -/
  | outsideWindow
  deriving DecidableEq, Repr

/-- The state. A register field has the name the spec gives it; the fields from `readData` on are the model's own. -/
structure State where
  /-- Control1 bit 10 (R22). -/
  acknowledgeEnable : Bool
  /-- Control1 bit 0 (R22). -/
  periEn : Bool
  /-- Control2 bits 5:0 (R23). -/
  freq : BitVec 6
  /-- Control2 bit 8 (R23). -/
  errorInterruptEnable : Bool
  /-- Control2 bit 9 (R23). -/
  eventInterruptEnable : Bool
  /-- Control2 bit 10 (R23). -/
  bufferInterruptEnable : Bool
  /-- Control2 bit 11 (R23). -/
  dmaEnable : Bool
  /-- Control2 bit 12 (R23, R183). -/
  dmaLastTransfer : Bool
  /-- Reg[OwnAddress1] (R24). -/
  ownAddress1 : Word
  /-- Reg[OwnAddress2] (R25). -/
  ownAddress2 : Word
  /-- Status1 bit 0 (R27). -/
  startBit : Bool
  /-- Status1 bit 1 (R27). -/
  addressSentOrMatched : Bool
  /-- Status1 bit 2 (R27). -/
  byteTransferFinished : Bool
  /-- Status1 bit 7 (R27). -/
  dataRegisterEmpty : Bool
  /-- Status1 bit 10 (R27). -/
  acknowledgeFailed : Bool
  /-- Status2 bit 0 (R28). -/
  masterSlave : Bool
  /-- Status2 bit 2 (R28). -/
  transmitterReceiver : Bool
  /-- Reg[ClockControl] (R29). -/
  clockControl : Word
  /-- Reg[RiseTime] (R30). -/
  riseTime : Word
  /-- Reg[NoiseFilter] (R31). -/
  noiseFilter : Word
  /-- TxnState (R33). -/
  txnState : TxnState
  /-- OutBuf, the Outgoing Buffer (R34). -/
  outBuf : List Byte
  /-- InQ, the Incoming Queue, head first (R35). -/
  inQ : List Byte
  /-- Sel, the Selected Slave (R36). -/
  sel : Option SlaveAddr
  /-- The line levels (R37). -/
  lines : Lines
  /-- Pending, the deferred actions, head first (R38). -/
  pending : List Action
  /-- LineLog, oldest first (R39). -/
  lineLog : List (Line × Bool)
  /-- SlaveLog, oldest first (R39). -/
  slaveLog : List SlaveCall
  /-- DiagLog, oldest first (R12, R39). -/
  diagLog : List DiagKind
  /-- What the last read returned: an RD operation (R10, log 7), or a narrow read, whose result the bus layer makes
  (log 9). -/
  readData : Option Word
  /-- What the environment has issued and the block has not yet taken, head next (R6, log 1). -/
  requests : List Access
  /-- The parameters (R5, log 4). -/
  params : Params
  /-- The answers the coming `Read` calls get, head next (R13, log 6). -/
  answers : List (List Byte)
  /-- How many `Read` calls were answered: the index of the free value that answers the next one when `answers` is
  empty (log 6). -/
  answerCount : Nat
  deriving DecidableEq, Repr

/-- All four lines low (R37, R46). -/
def Lines.low : Lines := ⟨false, false, false, false⟩

/-- Power-on: the state of R240 with Pending and the traces empty and the lines low (R46, R242), nothing issued. -/
def State.reset : State where
  acknowledgeEnable := false
  periEn := false
  freq := 0
  errorInterruptEnable := false
  eventInterruptEnable := false
  bufferInterruptEnable := false
  dmaEnable := false
  dmaLastTransfer := false
  ownAddress1 := 0
  ownAddress2 := 0
  startBit := false
  addressSentOrMatched := false
  byteTransferFinished := false
  dataRegisterEmpty := false
  acknowledgeFailed := false
  masterSlave := false
  transmitterReceiver := false
  clockControl := 0
  riseTime := 0x00000002
  noiseFilter := 0
  txnState := .idle
  outBuf := []
  inQ := []
  sel := none
  lines := Lines.low
  pending := []
  lineLog := []
  slaveLog := []
  diagLog := []
  readData := none
  requests := []
  params := Config.powerOn
  answers := []
  answerCount := 0

end Sys2Proof.Machine
end

