-- ==== Sys2Proof/Machine/Operands.lean ====
section
/-! DEFINITION. Operand assembly (spec/30_encoding.md R82, R84): the fields of a written value, the split of the address byte, and how a read value is put together. -/

namespace Sys2Proof.Machine

/-- "A Boolean field at bit i of a written value v is `v[i] = 1`" (R84 a). -/
def field (v : Word) (i : Nat) : Bool := v.getLsbD i

/-- Control1 bit 15, SoftwareReset (R22). -/
def softwareResetOf (v : Word) : Bool := field v 15

/-- Control1 bit 10, AcknowledgeEnable (R22). -/
def acknowledgeEnableOf (v : Word) : Bool := field v 10

/-- Control1 bit 9, StopGen (R22). -/
def stopGenOf (v : Word) : Bool := field v 9

/-- Control1 bit 8, StartGen (R22). -/
def startGenOf (v : Word) : Bool := field v 8

/-- Control1 bit 0, PeriEn (R22). -/
def periEnOf (v : Word) : Bool := field v 0

/-- Control2 bit 12, DmaLastTransfer (R23). -/
def dmaLastTransferOf (v : Word) : Bool := field v 12

/-- Control2 bit 11, DmaEnable (R23). -/
def dmaEnableOf (v : Word) : Bool := field v 11

/-- Control2 bit 10, BufferInterruptEnable (R23). -/
def bufferInterruptEnableOf (v : Word) : Bool := field v 10

/-- Control2 bit 9, EventInterruptEnable (R23). -/
def eventInterruptEnableOf (v : Word) : Bool := field v 9

/-- Control2 bit 8, ErrorInterruptEnable (R23). -/
def errorInterruptEnableOf (v : Word) : Bool := field v 8

/-- Control2 bits 5:0, Freq, "an unsigned number 0..63" (R84 b). -/
def freqOf (v : Word) : BitVec 6 := v.extractLsb' 0 6

/-- Status1 bit 10 of a written value (R27, R109). -/
def acknowledgeFailedOf (v : Word) : Bool := field v 10

/-- "The byte written to Data is `B = v[7:0]`" (R84 c). -/
def dataByteOf (v : Word) : Byte := v.extractLsb' 0 8

/-- `direction_is_read = (B[0] = 1)` (R84 d). -/
def directionIsRead (b : Byte) : Bool := b.getLsbD 0

/-- `address = B[7:1]` (R84 d). -/
def addressOf (b : Byte) : SlaveAddr := b.extractLsb' 1 7

/-- A Boolean placed at bit i of a register value, 0 elsewhere (R8, R84 e). -/
def placed (b : Bool) (i : Nat) : Word := if b then 1#32 <<< i else 0#32

/-- The value RD_Control1 returns (R100, layout C1). -/
def control1Value (s : State) : Word :=
  placed s.acknowledgeEnable 10 ||| placed s.periEn 0

/-- The value RD_Control2 returns (R102, layout C2). -/
def control2Value (s : State) : Word :=
  placed s.dmaLastTransfer 12 ||| placed s.dmaEnable 11 ||| placed s.bufferInterruptEnable 10
    ||| placed s.eventInterruptEnable 9 ||| placed s.errorInterruptEnable 8 ||| s.freq.setWidth 32

/-- DataRegisterNotEmpty: "computed on read, never cached" (R32). -/
def dataRegisterNotEmpty (s : State) : Bool := !s.inQ.isEmpty

/-- The value RD_Status1 returns (R108, layout S1). -/
def status1Value (s : State) : Word :=
  placed s.acknowledgeFailed 10 ||| placed s.dataRegisterEmpty 7 ||| placed (dataRegisterNotEmpty s) 6
    ||| placed s.byteTransferFinished 2 ||| placed s.addressSentOrMatched 1 ||| placed s.startBit 0

/-- The value RD_Status2 returns (R110, layout S2). -/
def status2Value (s : State) : Word :=
  placed s.transmitterReceiver 2 ||| placed s.masterSlave 0

/-- `zext_32(b)`, the value a read of Data returns for byte b (R84 e). -/
def dataValue (b : Byte) : Word := b.setWidth 32

end Sys2Proof.Machine
end

