-- ==== Sys2Proof/Machine/Flags.lean ====
section
/-! DEFINITION. The Interrupt Controller's function (spec/42_interrupt_controller.md R170) and the comparisons of old and new enable bits (spec/40_register_bank.md R103). -/

namespace Sys2Proof.Machine

/-- Event of R170. -/
def eventLevel (s : State) : Bool :=
  s.eventInterruptEnable && (s.startBit || s.addressSentOrMatched || s.byteTransferFinished
    || (s.bufferInterruptEnable && (s.dataRegisterEmpty || dataRegisterNotEmpty s)))

/-- Error of R170. -/
def errorLevel (s : State) : Bool := s.errorInterruptEnable && s.acknowledgeFailed

/-- `fall` of R103: a write of v to Control2 takes some interrupt enable from true to false. -/
def enableFalls (s : State) (v : Word) : Bool :=
  (s.errorInterruptEnable && !errorInterruptEnableOf v)
    || (s.eventInterruptEnable && !eventInterruptEnableOf v)
    || (s.bufferInterruptEnable && !bufferInterruptEnableOf v)

/-- `rise` of R103: a write of v to Control2 takes some interrupt enable from false to true. -/
def enableRises (s : State) (v : Word) : Bool :=
  (!s.errorInterruptEnable && errorInterruptEnableOf v)
    || (!s.eventInterruptEnable && eventInterruptEnableOf v)
    || (!s.bufferInterruptEnable && bufferInterruptEnableOf v)

end Sys2Proof.Machine
end

