-- ==== Sys2Proof/Machine/Ops.lean ====
section
/-! DEFINITION. The named operations the meanings are written with: lines, recompute, deferred actions, diagnostics, slave calls, reads' results, reset. The block enters no trap and returns from none (spec/60_exceptions.md R219, R220), so there is no exception-taking operation. -/

namespace Sys2Proof.Machine

/-- The outcome of an operation's step. -/
abbrev Result := Host.Outcome State Fault Refusal

/-- Go on with the next state; a stop stays a stop. -/
def andThen (r : Result) (f : State → Result) : Result :=
  match r with
  | .next s => f s
  | .fault e => .fault e
  | .refused e => .refused e

/-- `Line[l]` (R37). -/
def levelOf (ls : Lines) : Line → Bool
  | .eventInterrupt => ls.eventInterrupt
  | .errorInterrupt => ls.errorInterrupt
  | .dmaTransmit => ls.dmaTransmit
  | .dmaReceive => ls.dmaReceive

/-- `Line[l] <- b`. -/
def withLevel (ls : Lines) (l : Line) (b : Bool) : Lines :=
  match l with
  | .eventInterrupt => { ls with eventInterrupt := b }
  | .errorInterrupt => { ls with errorInterrupt := b }
  | .dmaTransmit => { ls with dmaTransmit := b }
  | .dmaReceive => { ls with dmaReceive := b }

/-- `Drive(l, b)` (R171): the line takes the level, and LineLog an entry if the level changed. A drive to the level the
line already has leaves the line and the log as they are. -/
def drive (l : Line) (b : Bool) (s : State) : State :=
  { s with
    lines := withLevel s.lines l b
    lineLog := s.lineLog ++ if levelOf s.lines l = b then [] else [(l, b)] }

/-- `Recompute()` (R170): both levels are functions of the present fields; Event is driven first. -/
def recompute (s : State) : State :=
  drive .errorInterrupt (errorLevel s) (drive .eventInterrupt (eventLevel s) s)

/-- `Submit(a)` (R190). -/
def submit (a : Action) (s : State) : State := { s with pending := s.pending ++ [a] }

/-- `Diag(kind)` (R12). -/
def diag (k : DiagKind) (s : State) : State := { s with diagLog := s.diagLog ++ [k] }

/-- `return v` of a read operation (R10). -/
def returnValue (v : Word) (s : State) : State := { s with readData := some v }

/-- What the next `Read` call returns: the next given answer, or the free value (R13, log 6). -/
def nextAnswer (s : State) : List Byte :=
  match s.answers with
  | [] => Config.slaveAnswer s.answerCount
  | bytes :: _ => bytes

/-- The state after `SlaveRead(a)`, whose result is `nextAnswer` (R202). -/
def slaveRead (a : SlaveAddr) (s : State) : State :=
  { s with
    slaveLog := s.slaveLog ++ [.read a s.params.readCount (nextAnswer s)]
    answers := s.answers.tail
    answerCount := s.answerCount + 1 }

/-- `SlaveWrite(a, bytes)` (R203). -/
def slaveWrite (a : SlaveAddr) (bytes : List Byte) (s : State) : State :=
  { s with slaveLog := s.slaveLog ++ [.write a bytes] }

/-- `Flush()` with `Sel = a` (R143): one call, all bytes, then the buffer is empty. -/
def flushTo (a : SlaveAddr) (s : State) : State :=
  { slaveWrite a s.outBuf s with outBuf := [] }

/-- `Flush()` (R143); its precondition `Sel ≠ none` is a fault where it fails (log 12). -/
def flush (s : State) : Result :=
  match s.sel with
  | some a => .next (flushTo a s)
  | none => .fault .noSelectedSlave

/-- One round of the loop of `DmaEnableRise()` (R180): "if a line is not already asserted, deassert-then-assert it". -/
def raiseEdge (l : Line) (s : State) : State :=
  if levelOf s.lines l then s else drive l true (drive l false s)

/-- `DmaEnableRise()` (R180). -/
def dmaEnableRise (s : State) : State := raiseEdge .dmaReceive (raiseEdge .dmaTransmit s)

/-- `DmaEnableFall()` (R181). -/
def dmaEnableFall (s : State) : State := drive .dmaReceive false (drive .dmaTransmit false s)

/-- The effect of a deferred action when it runs (R192, R182). No action tests a guard. -/
def runAction (a : Action) (s : State) : State :=
  match a with
  | .recompute => recompute s
  | .dataWriteDone => recompute { s with dataRegisterEmpty := true, byteTransferFinished := true }
  | .dmaRxPulse => drive .dmaReceive true (drive .dmaReceive false s)

/-- The loop of R191 on the actions that are pending at its start; no action submits another, so they are all. -/
def runPending : List Action → State → State
  | [], s => { s with pending := [] }
  | a :: rest, s => runPending rest (runAction a { s with pending := rest })

/-- The registers and buffers of `Reset()` (R240), without the lines. -/
def resetFields (s : State) : State :=
  { s with
    acknowledgeEnable := false, periEn := false, freq := 0
    errorInterruptEnable := false, eventInterruptEnable := false, bufferInterruptEnable := false
    dmaEnable := false, dmaLastTransfer := false
    ownAddress1 := 0, ownAddress2 := 0
    startBit := false, addressSentOrMatched := false, byteTransferFinished := false
    dataRegisterEmpty := false, acknowledgeFailed := false
    masterSlave := false, transmitterReceiver := false
    clockControl := 0, riseTime := 0x00000002, noiseFilter := 0
    txnState := .idle, outBuf := [], inQ := [], sel := none }

/-- `Reset()` (R240). Pending is left as it is; no slave is called. -/
def resetBlock (s : State) : State :=
  drive .dmaReceive false (drive .dmaTransmit false
    (drive .errorInterrupt false (drive .eventInterrupt false (resetFields s))))

end Sys2Proof.Machine
end

