-- ==== Sys2Proof/Machine/Protocol.lean ====
section
/-! DEFINITION. The Protocol State Machine (spec/41_protocol_engine.md): the procedures of START, STOP and peripheral-disable, and the meanings of RD_Data and WR_Data. -/

namespace Sys2Proof.Machine

/-- `Start()` after the flush: five flags at once, the recompute deferred (R141). -/
def beginAddressPhase (s : State) : State :=
  submit .recompute
    { s with
      transmitterReceiver := false, dataRegisterEmpty := false, byteTransferFinished := false
      startBit := true, masterSlave := true, txnState := .awaitingAddress }

/-- `Start()` (R141). -/
def start (s : State) : Result :=
  match s.txnState with
  | .awaitingAddress => .next s
  | .idle | .awaitingData | .receivingData =>
    andThen (if s.outBuf.isEmpty then .next s else flush s) fun s' => .next (beginAddressPhase s')

/-- The flush of `Stop()`: only "if Outgoing Buffer non-empty and a slave is selected" (R142). -/
def stopFlush (s : State) : State :=
  match s.sel with
  | some a => if s.outBuf.isEmpty then s else flushTo a s
  | none => s

/-- `Stop()` (R142). -/
def stop (s : State) : State :=
  recompute
    { stopFlush s with txnState := .idle, byteTransferFinished := false, dataRegisterEmpty := false }

/-- `PeripheralDisable()` (R150). The transaction state is left untouched. -/
def peripheralDisable (s : State) : State :=
  recompute
    { s with
      acknowledgeEnable := false, masterSlave := false, acknowledgeFailed := false
      transmitterReceiver := false, dataRegisterEmpty := false, byteTransferFinished := false }

/-- The fetch of the read-direction address phase: only when the queue is empty (R145). -/
def addressFetch (a : SlaveAddr) (s : State) : State :=
  if s.inQ.isEmpty then { slaveRead a s with inQ := nextAnswer s } else s

/-- The address phase when the address is found, read direction (R145). -/
def selectForRead (a : SlaveAddr) (s : State) : State :=
  { addressFetch a { s with sel := some a, addressSentOrMatched := true, transmitterReceiver := false } with
    byteTransferFinished := true, txnState := .receivingData }

/-- The address phase when the address is found, write direction (R145). -/
def selectForWrite (a : SlaveAddr) (s : State) : State :=
  { s with
    sel := some a, addressSentOrMatched := true, transmitterReceiver := true
    outBuf := [], dataRegisterEmpty := true, txnState := .awaitingData }

/-- The address phase when the address is not found: AddressNack (R145, R210 E1). -/
def addressNack (s : State) : State := { s with acknowledgeFailed := true, txnState := .idle }

/-- `AddressPhase(B)` (R145). -/
def addressPhase (b : Byte) (s : State) : State :=
  submit .recompute
    (if addressOf b ∈ s.params.slaves then
      if directionIsRead b then selectForRead (addressOf b) { s with startBit := false }
      else selectForWrite (addressOf b) { s with startBit := false }
    else addressNack { s with startBit := false })

/-- `DataPhase(B)` (R146). -/
def dataPhase (b : Byte) (s : State) : State :=
  submit .dataWriteDone { s with outBuf := s.outBuf ++ [b] }

/-- `WR_Data` (R144): an address byte, a data byte, or ignored with a diagnostic (R147). -/
def execWrData (v : Word) (s : State) : Result :=
  match s.txnState with
  | .awaitingAddress => .next (addressPhase (dataByteOf v) s)
  | .awaitingData => .next (dataPhase (dataByteOf v) s)
  | .idle => .next (diag .invalidStateWrite s)
  | .receivingData => .next (diag .invalidStateWrite s)

/-- The byte a read of Data returns: the head of the queue, 0 from an empty one (R148). -/
def headByte (s : State) : Byte := s.inQ.headD 0

/-- The dequeue of R148: take the head, or record EmptyQueueRead. -/
def dequeue (s : State) : State :=
  match s.inQ with
  | [] => diag .emptyQueueRead s
  | _ :: rest => { s with inQ := rest }

/-- The receive pulse is submitted for a refill that brought bytes, gated by DmaEnable only under
DMA_RX_PULSE_REQUIRES_DMAEN (R148, R182). -/
def submitPulse (bytes : List Byte) (s : State) : State :=
  if !bytes.isEmpty && (!s.params.dmaRxPulseRequiresDmaEn || s.dmaEnable) then submit .dmaRxPulse s else s

/-- The refill of R148 with `Sel = a`. -/
def refillFrom (a : SlaveAddr) (s : State) : State :=
  submitPulse (nextAnswer s)
    { slaveRead a s with inQ := nextAnswer s, byteTransferFinished := !(nextAnswer s).isEmpty }

/-- The refill of R148; SlaveRead's precondition `Sel ≠ none` is a fault where it fails (R202, log 12). -/
def refill (s : State) : Result :=
  match s.sel with
  | some a => .next (refillFrom a s)
  | none => .fault .noSelectedSlave

/-- The part of R148 that follows the dequeue when `TxnState = ReceivingData`. -/
def receiveMore (s : State) : Result :=
  andThen (if s.inQ.isEmpty then refill s else .next s) fun s' => .next (recompute s')

/-- The part of R148 that follows the dequeue in the other states: recompute only if a byte was taken. -/
def recomputeIfTook (took : Bool) (s : State) : State := if took then recompute s else s

/-- `RD_Data` (R148). -/
def execRdData (s : State) : Result :=
  match s.txnState with
  | .receivingData =>
    andThen (receiveMore (dequeue s)) fun s' => .next (returnValue (dataValue (headByte s)) s')
  | .idle | .awaitingAddress | .awaitingData =>
    .next (returnValue (dataValue (headByte s)) (recomputeIfTook (dataRegisterNotEmpty s) (dequeue s)))

end Sys2Proof.Machine
end

