-- ==== Sys2Proof/Machine/RegisterBank.lean ====
section
/-! DEFINITION. The Register Bank operations (spec/40_register_bank.md), one meaning each. -/

namespace Sys2Proof.Machine

/-- `RD_Control1` (R100). -/
def execRdControl1 (s : State) : Result := .next (returnValue (control1Value s) s)

/-- The two stored bits of Control1 (R101). -/
def storeControl1 (v : Word) (s : State) : State :=
  { s with acknowledgeEnable := acknowledgeEnableOf v, periEn := periEnOf v }

/-- `WR_Control1` (R101): SoftwareReset alone; else store, then STOP, then START, then peripheral-disable. -/
def execWrControl1 (v : Word) (s : State) : Result :=
  if softwareResetOf v then .next (resetBlock s)
  else
    let stored := storeControl1 v s
    let stopped := if stopGenOf v then stop stored else stored
    andThen (if startGenOf v then start stopped else .next stopped) fun started =>
      .next (if periEnOf v then started else peripheralDisable started)

/-- `RD_Control2` (R102). -/
def execRdControl2 (s : State) : Result := .next (returnValue (control2Value s) s)

/-- The six stored fields of Control2 (R103). -/
def storeControl2 (v : Word) (s : State) : State :=
  { s with
    freq := freqOf v
    errorInterruptEnable := errorInterruptEnableOf v
    eventInterruptEnable := eventInterruptEnableOf v
    bufferInterruptEnable := bufferInterruptEnableOf v
    dmaEnable := dmaEnableOf v
    dmaLastTransfer := dmaLastTransferOf v }

/-- The interrupt part of `WR_Control2`: `fall` and `rise` compare the state before the write with v (R103). -/
def enablePolicy (falls rises : Bool) (s : State) : State :=
  let s' := if falls then recompute s else s
  if rises then submit .recompute s' else s'

/-- The DMA part of `WR_Control2` (R103, R180, R181). -/
def dmaPolicy (old new : Bool) (s : State) : State :=
  if !old && new then dmaEnableRise s
  else if old && !new then dmaEnableFall s
  else s

/-- `WR_Control2` (R103). -/
def execWrControl2 (v : Word) (s : State) : Result :=
  .next (dmaPolicy s.dmaEnable (dmaEnableOf v)
    (enablePolicy (enableFalls s v) (enableRises s v) (storeControl2 v s)))

/-- `RD_OwnAddress1` (R104). -/
def execRdOwnAddress1 (s : State) : Result := .next (returnValue s.ownAddress1 s)

/-- `WR_OwnAddress1` (R105). -/
def execWrOwnAddress1 (v : Word) (s : State) : Result :=
  .next { s with ownAddress1 := v &&& s.params.maskOwnAddress1 }

/-- `RD_OwnAddress2` (R106). -/
def execRdOwnAddress2 (s : State) : Result := .next (returnValue s.ownAddress2 s)

/-- `WR_OwnAddress2` (R107). -/
def execWrOwnAddress2 (v : Word) (s : State) : Result :=
  .next { s with ownAddress2 := v &&& s.params.maskOwnAddress2 }

/-- The clear of AcknowledgeFailed by a read or write of Status1, when the flag really changes (R108, R109). -/
def clearAcknowledgeFailed (s : State) : State :=
  if s.acknowledgeFailed then recompute { s with acknowledgeFailed := false } else s

/-- `RD_Status1` (R108): the result carries the value the flag had before the clear. -/
def execRdStatus1 (s : State) : Result :=
  .next (returnValue (status1Value s) (if s.params.afReadClears then clearAcknowledgeFailed s else s))

/-- `WR_Status1` (R109). -/
def execWrStatus1 (v : Word) (s : State) : Result :=
  .next (if acknowledgeFailedOf v then s else clearAcknowledgeFailed s)

/-- The clear of AddressSentOrMatched by a read of Status2, when the flag really changes (R110). -/
def clearAddressSent (s : State) : State :=
  if s.addressSentOrMatched then recompute { s with addressSentOrMatched := false } else s

/-- `RD_Status2` (R110). -/
def execRdStatus2 (s : State) : Result := .next (returnValue (status2Value s) (clearAddressSent s))

/-- `WR_Status2` (R111): no effect, and no diagnostic, whatever the value. -/
def execWrStatus2 (_v : Word) (s : State) : Result := .next s

/-- `RD_ClockControl` (R112). -/
def execRdClockControl (s : State) : Result := .next (returnValue s.clockControl s)

/-- `WR_ClockControl` (R113). -/
def execWrClockControl (v : Word) (s : State) : Result :=
  .next { s with clockControl := v &&& s.params.maskClockControl }

/-- `RD_RiseTime` (R114). -/
def execRdRiseTime (s : State) : Result := .next (returnValue s.riseTime s)

/-- `WR_RiseTime` (R115). -/
def execWrRiseTime (v : Word) (s : State) : Result :=
  .next { s with riseTime := v &&& s.params.maskRiseTime }

/-- `RD_NoiseFilter` (R116). -/
def execRdNoiseFilter (s : State) : Result := .next (returnValue s.noiseFilter s)

/-- `WR_NoiseFilter` (R117). -/
def execWrNoiseFilter (v : Word) (s : State) : Result :=
  .next { s with noiseFilter := v &&& s.params.maskNoiseFilter }

/-- `RD_Unmapped` (R118): a diagnostic, and 0. -/
def execRdUnmapped (_off : Offset) (s : State) : Result :=
  .next (returnValue 0 (diag .unmappedAccess s))

/-- `WR_Unmapped` (R119): a diagnostic, and nothing else. -/
def execWrUnmapped (_off : Offset) (_v : Word) (s : State) : Result :=
  .next (diag .unmappedAccess s)

end Sys2Proof.Machine
end

