-- ==== Sys2Proof/Machine/Scheduler.lean ====
section
/-! DEFINITION. The two operations of the environment: QUIESCE (spec/44_deferred_scheduler.md R191) and RESET (spec/70_reset_and_hazards.md R241). -/

namespace Sys2Proof.Machine

/-- `QUIESCE` (R191): all pending actions, in submission order, in one atomic step. -/
def execQuiesce (s : State) : Result := .next (runPending s.pending s)

/-- `RESET` (R241). -/
def execReset (s : State) : Result := .next (resetBlock s)

end Sys2Proof.Machine
end

