-- ==== Sys2Proof/Machine/Dispatch.lean ====
section
/-! DEFINITION. One arm per operation, each a direct call of its meaning. -/

namespace Sys2Proof.Machine

def exec (i : Instr) (s : State) : Host.Outcome State Fault Refusal :=
  match i with
  | .rdControl1 => Sys2Proof.Machine.execRdControl1 s
  | .wrControl1 v => Sys2Proof.Machine.execWrControl1 v s
  | .rdControl2 => Sys2Proof.Machine.execRdControl2 s
  | .wrControl2 v => Sys2Proof.Machine.execWrControl2 v s
  | .rdOwnAddress1 => Sys2Proof.Machine.execRdOwnAddress1 s
  | .wrOwnAddress1 v => Sys2Proof.Machine.execWrOwnAddress1 v s
  | .rdOwnAddress2 => Sys2Proof.Machine.execRdOwnAddress2 s
  | .wrOwnAddress2 v => Sys2Proof.Machine.execWrOwnAddress2 v s
  | .rdData => Sys2Proof.Machine.execRdData s
  | .wrData v => Sys2Proof.Machine.execWrData v s
  | .rdStatus1 => Sys2Proof.Machine.execRdStatus1 s
  | .wrStatus1 v => Sys2Proof.Machine.execWrStatus1 v s
  | .rdStatus2 => Sys2Proof.Machine.execRdStatus2 s
  | .wrStatus2 v => Sys2Proof.Machine.execWrStatus2 v s
  | .rdClockControl => Sys2Proof.Machine.execRdClockControl s
  | .wrClockControl v => Sys2Proof.Machine.execWrClockControl v s
  | .rdRiseTime => Sys2Proof.Machine.execRdRiseTime s
  | .wrRiseTime v => Sys2Proof.Machine.execWrRiseTime v s
  | .rdNoiseFilter => Sys2Proof.Machine.execRdNoiseFilter s
  | .wrNoiseFilter v => Sys2Proof.Machine.execWrNoiseFilter v s
  | .rdUnmapped off => Sys2Proof.Machine.execRdUnmapped off s
  | .wrUnmapped off v => Sys2Proof.Machine.execWrUnmapped off v s
  | .quiesce => Sys2Proof.Machine.execQuiesce s
  | .reset => Sys2Proof.Machine.execReset s

end Sys2Proof.Machine
end

