-- ==== Sys2Proof/Machine/Issue.lean ====
section
/-! DEFINITION. How accesses come to the block (spec/20_memory.md R60 to R62) and what becomes of one that is no operation of it (R61). -/

namespace Sys2Proof.Machine

/-- The environment issues an access, to be taken next. -/
def issue (a : Access) (s : State) : State := { s with requests := a :: s.requests }

/-- The address at which the platform places an offset of the window (R62). -/
def addressAt (p : Params) (off : Nat) : Nat := p.base + off

/-- The offset a system address has in the window, if it lies in it: BASE to BASE + DEVICE_SIZE - 1 (R5, R62). -/
def offsetAt (p : Params) (addr : Nat) : Option Nat :=
  if p.base ≤ addr ∧ addr < p.base + Config.deviceSize then some (addr - p.base) else none

/-- The host accesses a system address: the interconnect brings the access to the block, by its offset, when the address
lies in the window, and does "not route it here" when it does not (R61, R62, log 11). -/
def issueAt (kind : OpKind) (width : Width) (addr : Nat) (v : Word) (s : State) : State :=
  match offsetAt s.params addr with
  | some off => issue ⟨kind, width, off, v⟩ s
  | none => s

/-- The end of a narrow access (log 9): a read returns the bus layer's result, a write leaves what the host last read. -/
def finishNarrow (kind : OpKind) (before : Option Word) (result : Word) (s : State) : State :=
  { s with readData := if kind = .rd then some result else before }

/-- Run a bus-layer translation: its register operations one after another, each read's value handed on (R61, R63, log 9).
The whole of it is one access, which "runs to completion before the next begins" (R6). -/
def runBus (kind : OpKind) (before : Option Word) : BusProgram → State → Result
  | .done result, s => .next (finishNarrow kind before result s)
  | .rd off next, s =>
    andThen (exec (decodeRead off) s) fun u => runBus kind before (next (u.readData.getD 0)) u
  | .wr off v next, s => andThen (exec (decodeWrite off v) s) fun u => runBus kind before next u

/-- An access that is not an operation of the block (R61): outside the window it is not the block's (U13); a narrow one
is refused, or run as the bus layer translates it, as SUBWORD_POLICY says (U10, log 9). -/
def unrouted (e : RouteError) (a : Access) (s : State) : Result :=
  match e with
  | .outside => .refused .outsideWindow
  | .narrow =>
    match s.params.subwordPolicy with
    | .refuse => .refused .narrowAccess
    | .translate => runBus a.kind s.readData (Config.busLayer a) s

end Sys2Proof.Machine
end

