-- ==== Sys2Proof/Machine/Step.lean ====
section
/-! DEFINITION. One step of the machine: take the next access the environment has issued and run it. -/

namespace Sys2Proof.Machine

/-- One step. With nothing issued the block does nothing (R20: it acts only when acted upon). Otherwise the access at
the head is taken and its operation runs whole (R65); a narrow access is run as the bus layer
translates it, or refused (R61). -/
def step (s : State) : Host.Outcome State Fault Refusal :=
  match s.requests with
  | [] => .next s
  | a :: rest =>
    match decodeAccess a with
    | .ok i => exec i { s with requests := rest }
    | .error e => unrouted e a { s with requests := rest }

/-- The operation of the table word w stands at the head of what is issued, so that the next step runs it. -/
def State.withFetchWord (s : State) (nbits w : Nat) : State :=
  issue (accessOf (OpWord.ofNat (w % 2 ^ nbits))) s

end Sys2Proof.Machine
end

