-- ==== Sys2Proof/Safety.lean ====
section
/-! DEFINITION. What counts as a sound state (the invariants of spec/10_state.md R44), what a sequence of operations does, and the words the claims about single operations use. -/

namespace Sys2Proof.Machine

/-! ## Sound states -/

/-- R44 (1): "`OutBuf ≠ []` implies `TxnState = AwaitingData` and `Sel ≠ none`". -/
abbrev State.bufferSound (s : State) : Prop :=
  s.outBuf ≠ [] → s.txnState = .awaitingData ∧ s.sel ≠ none

/-- R44 (2): "`TxnState ∈ {AwaitingData, ReceivingData}` implies `Sel ≠ none`". -/
abbrev State.selectionSound (s : State) : Prop :=
  (s.txnState = .awaitingData ∨ s.txnState = .receivingData) → s.sel ≠ none

/-- R44 (3): "`Sel`, when not `none`, is a key of `SLAVES`". -/
abbrev State.registrySound (s : State) : Prop := ∀ a ∈ s.sel, a ∈ s.params.slaves

/-- The invariants of R44 together. -/
abbrev State.Sound (s : State) : Prop := s.bufferSound ∧ s.selectionSound ∧ s.registrySound

/-! ## Sequences of operations -/

/-- Run operations one after another, stopping at the first stop (R65, R68). -/
def runOps : List Instr → State → Result
  | [], s => .next s
  | i :: is, s => andThen (exec i s) (runOps is)

/-- Read Data n times: the values returned, in order, and the state after; none if a read stops. -/
def readDataTimes : Nat → State → Option (List Word × State)
  | 0, s => some ([], s)
  | n + 1, s =>
    match exec .rdData s with
    | .next s' =>
      match s'.readData, readDataTimes n s' with
      | some v, some (vs, t) => some (v :: vs, t)
      | _, _ => none
    | .fault _ => none
    | .refused _ => none

/-! ## Kinds of operation -/

/-- The operation runs `Reset()`: RESET, or a write of Control1 with bit 15 = 1 (R101, R241). -/
def isResetOp : Instr → Bool
  | .reset => true
  | .wrControl1 v => softwareResetOf v
  | _ => false

/-- The operation runs `Start()`: a write of Control1 with bit 8 = 1 and bit 15 = 0 (R101). -/
def isStartOp : Instr → Bool
  | .wrControl1 v => !softwareResetOf v && startGenOf v
  | _ => false

/-- The operation runs `Stop()`: a write of Control1 with bit 9 = 1 and bit 15 = 0 (R101). -/
def isStopOp : Instr → Bool
  | .wrControl1 v => !softwareResetOf v && stopGenOf v
  | _ => false

/-- The operation runs `PeripheralDisable()`: a write of Control1 with bit 0 = 0 and bit 15 = 0 (R101, R150). -/
def isDisableOp : Instr → Bool
  | .wrControl1 v => !softwareResetOf v && !periEnOf v
  | _ => false

/-- The operation is an address phase: a write of Data in AwaitingAddress (R144, R145). -/
def isAddressOp (s : State) : Instr → Bool
  | .wrData _ => s.txnState == .awaitingAddress
  | _ => false

/-- The address byte names a registered slave (R145). -/
def addressFound (s : State) : Instr → Bool
  | .wrData v => s.params.slaves.contains (addressOf (dataByteOf v))
  | _ => false

/-- The address byte asks for the read direction (R84 d). -/
def addressReads : Instr → Bool
  | .wrData v => directionIsRead (dataByteOf v)
  | _ => false

/-- The operation can neither end a transaction nor begin one: it is no write of Control1 and no RESET. -/
def keepsTransaction : Instr → Bool
  | .rdControl1 => true
  | .wrControl1 _ => false
  | .rdControl2 => true
  | .wrControl2 _ => true
  | .rdOwnAddress1 => true
  | .wrOwnAddress1 _ => true
  | .rdOwnAddress2 => true
  | .wrOwnAddress2 _ => true
  | .rdData => true
  | .wrData _ => true
  | .rdStatus1 => true
  | .wrStatus1 _ => true
  | .rdStatus2 => true
  | .wrStatus2 _ => true
  | .rdClockControl => true
  | .wrClockControl _ => true
  | .rdRiseTime => true
  | .wrRiseTime _ => true
  | .rdNoiseFilter => true
  | .wrNoiseFilter _ => true
  | .rdUnmapped _ => true
  | .wrUnmapped _ _ => true
  | .quiesce => true
  | .reset => false

/-- The byte a write of Data carries (R84 c). -/
def sentByte : Instr → Option Byte
  | .wrData v => some (dataByteOf v)
  | _ => none

/-! ## The spec's tables -/

/-- The transition table of R140, the address phase's three outcomes included; a write of Control1 that carries several
trigger bits applies its events in the order of R101. -/
def txnAfter (s : State) : Instr → TxnState
  | .reset => .idle
  | .wrControl1 v =>
    if softwareResetOf v then .idle
    else if startGenOf v then .awaitingAddress
    else if stopGenOf v then .idle
    else s.txnState
  | .wrData v =>
    if s.txnState = .awaitingAddress then
      if addressOf (dataByteOf v) ∈ s.params.slaves then
        if directionIsRead (dataByteOf v) then .receivingData else .awaitingData
      else .idle
    else s.txnState
  | _ => s.txnState

/-- The diagnostic of a write of Data: InvalidStateWrite in Idle and ReceivingData (R147, R210 E2). -/
def dataWriteDiag : TxnState → List DiagKind
  | .idle => [.invalidStateWrite]
  | .receivingData => [.invalidStateWrite]
  | .awaitingAddress => []
  | .awaitingData => []

/-- The diagnostic of R210 (E2, E3, E4) an operation records, if any. -/
def diagOf (s : State) : Instr → List DiagKind
  | .rdControl1 => []
  | .wrControl1 _ => []
  | .rdControl2 => []
  | .wrControl2 _ => []
  | .rdOwnAddress1 => []
  | .wrOwnAddress1 _ => []
  | .rdOwnAddress2 => []
  | .wrOwnAddress2 _ => []
  | .rdData => if s.inQ = [] then [.emptyQueueRead] else []
  | .wrData _ => dataWriteDiag s.txnState
  | .rdStatus1 => []
  | .wrStatus1 _ => []
  | .rdStatus2 => []
  | .wrStatus2 _ => []
  | .rdClockControl => []
  | .wrClockControl _ => []
  | .rdRiseTime => []
  | .wrRiseTime _ => []
  | .rdNoiseFilter => []
  | .wrNoiseFilter _ => []
  | .rdUnmapped _ => [.unmappedAccess]
  | .wrUnmapped _ _ => [.unmappedAccess]
  | .quiesce => []
  | .reset => []

/-- The levels a sequence of LineLog entries leaves (R171). -/
def replayLog : List (Line × Bool) → Lines → Lines
  | [], ls => ls
  | (l, b) :: es, ls => replayLog es (withLevel ls l b)

/-- Every entry of the sequence is a change of level, from the levels it starts with (R171). -/
def allChanges : List (Line × Bool) → Lines → Bool
  | [], _ => true
  | (l, b) :: es, ls => (levelOf ls l != b) && allChanges es (withLevel ls l b)

/-- What remains of a state when everything no rule of the core reads is wiped: the five stored-only registers, Freq,
DmaLastTransfer, AcknowledgeEnable, PeriEn, and the value of the last read (R41, R183, R221, R222). -/
def coreOf (s : State) : State :=
  { s with
    ownAddress1 := 0, ownAddress2 := 0, clockControl := 0, riseTime := 0, noiseFilter := 0
    freq := 0, dmaLastTransfer := false, acknowledgeEnable := false, periEn := false, readData := none }

end Sys2Proof.Machine
end

