-- ==== Sys2Proof/Certificates/Slice0/Obligations.lean ====
section
/-! DEFINITION. The statements for the provers. Each docstring names the rules of spec/ it comes from, and the spec's own decisions (spec/92_eei_decisions.md) or the log entries it rests on. -/

open Sys2Proof Sys2Proof.Machine

/-! ## Decoding and stepping -/

/-- R80, R81, R6 (log 1): a step takes the access at the head and runs the operation it decodes to, with that access
taken; an operation laid out for the bus is such an access; with nothing issued a step changes nothing (log 1, the
model's choice). -/
def Obligations.StepRunsTheIssuedOperation : Prop :=
  (∀ (s : State) (a : Access) (rest : List Access) (i : Instr),
    s.requests = a :: rest → decodeAccess a = .ok i → step s = exec i { s with requests := rest }) ∧
  (∀ (s : State) (o : OpWord) (rest : List Access),
    s.requests = accessOf o :: rest → step s = exec (decode o) { s with requests := rest }) ∧
  (∀ s : State, s.requests = [] → step s = .next s)

/-- R61, R62, R63, U10, U13 (decisions D2, D3, D4, D29; log 9, log 10, log 11): exactly the 32-bit accesses inside the
window, and the two events, are operations of the block. Other accesses are refused by name; under a bus-layer translation
a step on a narrow one inside the window runs the program that the bus layer gives for it, and in a sound state that run
completes: it is a sequence of register accesses, no QUIESCE or RESET among them, after which a narrow read has as its
value the result that the run ends with and a narrow write leaves what the host last read (the model's choices of log 9).
An access at a system address reaches the block by its distance from BASE, and only
inside the window. -/
def Obligations.OnlyWordAccessesInsideTheWindowAreOperations : Prop :=
  (∀ a : Access, a.wf = true → ∃ i, decodeAccess a = .ok i ∧ i.wf = true) ∧
  (∀ (s : State) (a : Access) (rest : List Access), s.requests = a :: rest → (a.kind = .rd ∨ a.kind = .wr) →
    (0x400 ≤ a.offset → step s = .refused .outsideWindow) ∧
    (a.offset < 0x400 → a.width ≠ .word → s.params.subwordPolicy = .refuse → step s = .refused .narrowAccess) ∧
    (a.offset < 0x400 → a.width ≠ .word → s.params.subwordPolicy = .translate →
      step s = runBus a.kind s.readData (Config.busLayer a) { s with requests := rest } ∧
      (s.Sound → ∃ ops u r, (∀ i ∈ ops, i.wf = true ∧ i ≠ .quiesce ∧ i ≠ .reset) ∧
        runOps ops { s with requests := rest } = .next u ∧
        runBus a.kind s.readData (Config.busLayer a) { s with requests := rest }
          = .next { u with readData := if a.kind = .rd then some r else s.readData }))) ∧
  (∀ (s : State) (kind : OpKind) (width : Width) (v : Word),
    (∀ off, off < 0x400 → issueAt kind width (s.params.base + off) v s = issue ⟨kind, width, off, v⟩ s) ∧
    (∀ addr, addr < s.params.base ∨ s.params.base + 0x400 ≤ addr → issueAt kind width addr v s = s))

/-- R80 to R84: decoding an encoded well-formed operation gives it back, every operand at every value. -/
def Obligations.DecodeInvertsEncode : Prop :=
  ∀ i : Instr, i.wf = true → decode (encode i) = i

/-- R80, R81: every operation word decodes to a well-formed operation, whose encoding has the word's kind, its offset
unless the decoder ignores it (QUIESCE, RESET), and its data if it is a write. -/
def Obligations.EncodeInvertsDecode : Prop :=
  ∀ o : OpWord,
    (decode o).wf = true ∧
    kindOf (encode (decode o)).selector = kindOf o.selector ∧
    ((kindOf o.selector = .rd ∨ kindOf o.selector = .wr) → (encode (decode o)).selector = o.selector) ∧
    (kindOf o.selector = .wr → (encode (decode o)).data = o.data)

/-- R81, R83: no selector is covered by two exact rows, exactly one row with mask 0xC00 covers it, and the operation it
decodes to is the one its row names. -/
def Obligations.DecodeFollowsTheOpcodeTable : Prop :=
  ∀ o : OpWord,
    (exactRows.filter fun r => r.covers o.selector).length ≤ 1 ∧
    (kindRows.filter fun r => r.covers o.selector).length = 1 ∧
    (rowOf o.selector).map (·.mnemonic) = some (decode o).mnemonic

/-- R83: a few selectors written out from the table, one of each family, with a data word. -/
def Obligations.WrittenOutWordsDecode : Prop :=
  decode ⟨0b010000000000#12, 0x00000101⟩ = .wrControl1 0x00000101 ∧
  decode ⟨0b000000000100#12, 0⟩ = .rdControl2 ∧
  decode ⟨0b010000100000#12, 0x11⟩ = .wrRiseTime 0x11 ∧
  decode ⟨0b010000010000#12, 0xAB⟩ = .wrData 0xAB ∧
  decode ⟨0b000000010100#12, 0⟩ = .rdStatus1 ∧
  decode ⟨0b000000010010#12, 0⟩ = .rdUnmapped 0x012 ∧
  decode ⟨0b011111111100#12, 0xFFFFFFFF⟩ = .wrUnmapped 0x3FC 0xFFFFFFFF ∧
  decode ⟨0b100000000000#12, 0⟩ = .quiesce ∧
  decode ⟨0b110000000000#12, 0⟩ = .reset

/-! ## Register bank -/

/-- R100, R102 (decisions D5, D7, D8): a read of Control1 or Control2 returns the stored fields at their positions and 0
everywhere else, and changes nothing. -/
def Obligations.ControlReadsReturnTheStoredFields : Prop :=
  ∀ s : State,
    (∃ w : Word, exec .rdControl1 s = .next { s with readData := some w } ∧
      ∀ j, w.getLsbD j =
        (if j = 10 then s.acknowledgeEnable else if j = 0 then s.periEn else false)) ∧
    (∃ w : Word, exec .rdControl2 s = .next { s with readData := some w } ∧
      ∀ j, w.getLsbD j =
        (if j = 12 then s.dmaLastTransfer else if j = 11 then s.dmaEnable
         else if j = 10 then s.bufferInterruptEnable else if j = 9 then s.eventInterruptEnable
         else if j = 8 then s.errorInterruptEnable else if j < 6 then s.freq.getLsbD j else false))

/-- R108, R32 (decisions D5, D13, D14): a read of Status1 returns the flags as they were before it, DataRegisterNotEmpty
from the queue, and 0 elsewhere; it clears AcknowledgeFailed, and recomputes, only when that flag is true and
AF_READ_CLEARS is; else it changes nothing. -/
def Obligations.Status1ReadReturnsFlagsThenClears : Prop :=
  ∀ s : State, ∃ w : Word,
    exec .rdStatus1 s =
      .next { (if s.params.afReadClears = true ∧ s.acknowledgeFailed = true
        then recompute { s with acknowledgeFailed := false } else s) with readData := some w } ∧
    ∀ j, w.getLsbD j =
      (if j = 10 then s.acknowledgeFailed else if j = 7 then s.dataRegisterEmpty
       else if j = 6 then decide (s.inQ ≠ []) else if j = 2 then s.byteTransferFinished
       else if j = 1 then s.addressSentOrMatched else if j = 0 then s.startBit else false)

/-- R109 (decisions D13, D14): a write of Status1 acts on bit 10 only, when it is 0 and AcknowledgeFailed is true. -/
def Obligations.Status1WriteClearsAcknowledgeFailedOnly : Prop :=
  ∀ (s : State) (v : Word),
    (v[10] = false → s.acknowledgeFailed = true →
      exec (.wrStatus1 v) s = .next (recompute { s with acknowledgeFailed := false })) ∧
    (v[10] = true ∨ s.acknowledgeFailed = false → exec (.wrStatus1 v) s = .next s)

/-- R110, R111 (decisions D5, D14): a read of Status2 returns the two flags, and clears AddressSentOrMatched, with a
recompute, when it was true, whatever MasterSlave is; a write of Status2 changes nothing. -/
def Obligations.Status2ReadClearsAddressSent : Prop :=
  ∀ s : State,
    (∃ w : Word,
      exec .rdStatus2 s =
        .next { (if s.addressSentOrMatched = true
          then recompute { s with addressSentOrMatched := false } else s) with readData := some w } ∧
      ∀ j, w.getLsbD j =
        (if j = 2 then s.transmitterReceiver else if j = 0 then s.masterSlave else false)) ∧
    (∀ v : Word, exec (.wrStatus2 v) s = .next s)

/-- R24, R25, R29, R30, R31, R104 to R107, R112 to R117 (decision D6): each stored-only register keeps the written value
under its mask and nothing else changes; a read returns the stored value and changes nothing. -/
def Obligations.StoredOnlyRegistersStoreAndReadBack : Prop :=
  ∀ (s : State) (v : Word),
    exec (.wrOwnAddress1 v) s = .next { s with ownAddress1 := v &&& s.params.maskOwnAddress1 } ∧
    exec (.wrOwnAddress2 v) s = .next { s with ownAddress2 := v &&& s.params.maskOwnAddress2 } ∧
    exec (.wrClockControl v) s = .next { s with clockControl := v &&& s.params.maskClockControl } ∧
    exec (.wrRiseTime v) s = .next { s with riseTime := v &&& s.params.maskRiseTime } ∧
    exec (.wrNoiseFilter v) s = .next { s with noiseFilter := v &&& s.params.maskNoiseFilter } ∧
    exec .rdOwnAddress1 s = .next { s with readData := some s.ownAddress1 } ∧
    exec .rdOwnAddress2 s = .next { s with readData := some s.ownAddress2 } ∧
    exec .rdClockControl s = .next { s with readData := some s.clockControl } ∧
    exec .rdRiseTime s = .next { s with readData := some s.riseTime } ∧
    exec .rdNoiseFilter s = .next { s with readData := some s.noiseFilter }

/-- R118, R119: an access at an offset with no register records a diagnostic and does nothing else; a read returns 0. -/
def Obligations.UnmappedAccessesOnlyRecord : Prop :=
  ∀ (s : State) (off : Offset) (v : Word),
    exec (.rdUnmapped off) s =
      .next { s with diagLog := s.diagLog ++ [.unmappedAccess], readData := some 0 } ∧
    exec (.wrUnmapped off v) s = .next { s with diagLog := s.diagLog ++ [.unmappedAccess] }

/-- R103, R102 (decisions D5, D15): a write of Control2 always completes, stores the six fields, and besides them can
change only the lines, their log and Pending; a read after it returns the written value's listed bits. -/
def Obligations.Control2WriteStoresItsSixFields : Prop :=
  ∀ (s : State) (v : Word), ∃ ls log p,
    exec (.wrControl2 v) s = .next { s with
      freq := v.extractLsb' 0 6, errorInterruptEnable := v[8], eventInterruptEnable := v[9]
      bufferInterruptEnable := v[10], dmaEnable := v[11], dmaLastTransfer := v[12]
      lines := ls, lineLog := log, pending := p } ∧
    ∀ t, exec (.wrControl2 v) s = .next t →
      exec .rdControl2 t = .next { t with readData := some (v &&& 0x00001F3F) }

/-- R103, R172 (decision D15 for writes of several bits): every write of Control2 defers exactly one recompute when some
interrupt enable rises, however many rise and whatever else falls, and defers nothing when none rises: a fall alone submits
nothing, nor does a write that changes no enable. When none falls the interrupt lines keep their levels inside the write,
even if one is stale. -/
def Obligations.ArmingAnEnableIsDeferred : Prop :=
  ∀ (s : State) (v : Word) (t : State), exec (.wrControl2 v) s = .next t →
    t.pending = s.pending ++
      (if (s.errorInterruptEnable = false ∧ v[8] = true) ∨ (s.eventInterruptEnable = false ∧ v[9] = true)
          ∨ (s.bufferInterruptEnable = false ∧ v[10] = true)
        then [.recompute] else []) ∧
    ((s.errorInterruptEnable = true → v[8] = true) → (s.eventInterruptEnable = true → v[9] = true) →
      (s.bufferInterruptEnable = true → v[10] = true) →
      t.lines.eventInterrupt = s.lines.eventInterrupt ∧ t.lines.errorInterrupt = s.lines.errorInterrupt)

/-- R103, R172, R173 (4), R220 (decision D15): when an interrupt enable falls, both interrupt lines have the value of the
function of the new fields before the write returns; so a line whose own enable is cleared is low. -/
def Obligations.DisarmingAnEnableActsBeforeTheWriteReturns : Prop :=
  ∀ (s : State) (v : Word) (t : State), exec (.wrControl2 v) s = .next t →
    ((s.errorInterruptEnable = true ∧ v[8] = false) ∨ (s.eventInterruptEnable = true ∧ v[9] = false) ∨
      (s.bufferInterruptEnable = true ∧ v[10] = false) →
      t.lines.eventInterrupt = eventLevel t ∧ t.lines.errorInterrupt = errorLevel t) ∧
    (s.eventInterruptEnable = true → v[9] = false → t.lines.eventInterrupt = false) ∧
    (s.errorInterruptEnable = true → v[8] = false → t.lines.errorInterrupt = false)

/-- R180, R181, R103 (decisions D15, D16, D17): every write of Control2 completes, and whatever else it changes: DmaEnable
going true leaves both DMA lines high with a rising edge on each that was low, Transmit first; going false it leaves both
low, with a falling edge on each that was high; unchanged it leaves both and their log alone. These entries come last in
LineLog (decision D15): before them stand only entries of the interrupt lines, none unless an interrupt enable falls,
and then the interrupt lines are left alone. -/
def Obligations.DmaEnableDrivesBothRequestLines : Prop :=
  ∀ (s : State) (v : Word), ∃ t before, exec (.wrControl2 v) s = .next t ∧
    (∀ e ∈ before, e.1 = .eventInterrupt ∨ e.1 = .errorInterrupt) ∧
    ((s.errorInterruptEnable = true → v[8] = true) → (s.eventInterruptEnable = true → v[9] = true) →
      (s.bufferInterruptEnable = true → v[10] = true) →
      before = [] ∧ t.lines.eventInterrupt = s.lines.eventInterrupt ∧
        t.lines.errorInterrupt = s.lines.errorInterrupt) ∧
    (s.dmaEnable = false → v[11] = true →
      t.lines.dmaTransmit = true ∧ t.lines.dmaReceive = true ∧
      t.lineLog = s.lineLog ++ before ++ (if s.lines.dmaTransmit then [] else [(.dmaTransmit, true)])
        ++ (if s.lines.dmaReceive then [] else [(.dmaReceive, true)])) ∧
    (s.dmaEnable = true → v[11] = false →
      t.lines.dmaTransmit = false ∧ t.lines.dmaReceive = false ∧
      t.lineLog = s.lineLog ++ before ++ (if s.lines.dmaTransmit then [(.dmaTransmit, false)] else [])
        ++ (if s.lines.dmaReceive then [(.dmaReceive, false)] else [])) ∧
    (s.dmaEnable = v[11] →
      t.lines.dmaTransmit = s.lines.dmaTransmit ∧ t.lines.dmaReceive = s.lines.dmaReceive ∧
      t.lineLog = s.lineLog ++ before)

/-- R181 (decisions D15, log 22: the DMA lines move after any interrupt line; D17, log 24: an entry only for a line that
was high): DmaEnable going true to false lowers both DMA lines inside the write, Transmit first; and besides that only
`Reset()` and the first half of a receive pulse ever lower one: a falling edge of a DMA line in LineLog comes from
nothing else. -/
def Obligations.DmaLinesFallOnlyByDisableResetOrPulse : Prop :=
  (∀ (s : State) (v : Word), s.dmaEnable = true → v[11] = false →
    ∃ t before, exec (.wrControl2 v) s = .next t ∧ t.lines.dmaTransmit = false ∧ t.lines.dmaReceive = false ∧
      t.lineLog = s.lineLog ++ before ++ (if s.lines.dmaTransmit then [(.dmaTransmit, false)] else [])
        ++ (if s.lines.dmaReceive then [(.dmaReceive, false)] else []) ∧
      ∀ e ∈ before, e.1 = .eventInterrupt ∨ e.1 = .errorInterrupt) ∧
  (∀ (i : Instr) (s t : State) (new : List (Line × Bool)) (l : Line), exec i s = .next t →
    t.lineLog = s.lineLog ++ new → (l = .dmaTransmit ∨ l = .dmaReceive) → (l, false) ∈ new →
    isResetOp i = true ∨ (∃ v, i = .wrControl2 v ∧ s.dmaEnable = true ∧ v[11] = false) ∨
    (i = .quiesce ∧ Action.dmaRxPulse ∈ s.pending ∧ l = .dmaReceive))

/-! ## Protocol engine -/

/-- R140, R152 (decisions D9, D22): the Transaction State after every operation is the one the transition table gives. -/
def Obligations.EveryOperationFollowsTheTransitionTable : Prop :=
  ∀ (i : Instr) (s t : State), exec i s = .next t → t.txnState = txnAfter s i

/-- R33: the initial state is Idle; only START, STOP, the address phase and reset write the Transaction State, in
particular not peripheral-disable; and no value a read returns depends on it. -/
def Obligations.TransactionStateIsWrittenByItsFourWritersOnly : Prop :=
  State.reset.txnState = .idle ∧
  (∀ (i : Instr) (s t : State), exec i s = .next t → t.txnState ≠ s.txnState →
    isStartOp i = true ∨ isStopOp i = true ∨ isAddressOp s i = true ∨ isResetOp i = true) ∧
  (∀ (i : Instr) (s t t' : State) (x : TxnState), exec i s = .next t → exec i { s with txnState := x } = .next t' →
    t'.readData = t.readData)

/-- R141, R101, R143 (decisions D8, D9): a write of Control1 with only START and PeriEn active, outside AwaitingAddress,
flushes a non-empty buffer to the selected slave in one call, then sets and clears its five flags at once, defers the
recompute and enters AwaitingAddress; the lines do not move. -/
def Obligations.StartOpensAnAddressPhase : Prop :=
  ∀ (s : State) (v : Word), v[15] = false → v[9] = false → v[8] = true → v[0] = true →
    s.txnState ≠ .awaitingAddress →
    (s.outBuf = [] → exec (.wrControl1 v) s = .next { s with
      acknowledgeEnable := v[10], periEn := true
      transmitterReceiver := false, dataRegisterEmpty := false, byteTransferFinished := false
      startBit := true, masterSlave := true, pending := s.pending ++ [.recompute], txnState := .awaitingAddress }) ∧
    (∀ a, s.outBuf ≠ [] → s.sel = some a → exec (.wrControl1 v) s = .next { s with
      acknowledgeEnable := v[10], periEn := true
      slaveLog := s.slaveLog ++ [.write a s.outBuf], outBuf := []
      transmitterReceiver := false, dataRegisterEmpty := false, byteTransferFinished := false
      startBit := true, masterSlave := true, pending := s.pending ++ [.recompute], txnState := .awaitingAddress })

/-- R141 (decision D22): a START in AwaitingAddress does nothing but store the two bits of Control1. -/
def Obligations.StartInAwaitingAddressIsANoOp : Prop :=
  ∀ (s : State) (v : Word), v[15] = false → v[9] = false → v[8] = true → v[0] = true →
    s.txnState = .awaitingAddress →
    exec (.wrControl1 v) s = .next { s with acknowledgeEnable := v[10], periEn := true }

/-- R142, R143, R101 (decisions D8, D9, D36): a write of Control1 with only STOP and PeriEn active flushes a non-empty
buffer when a slave is selected, then enters Idle, clears two flags and recomputes, in every state. -/
def Obligations.StopEndsTheTransaction : Prop :=
  ∀ (s : State) (v : Word), v[15] = false → v[9] = true → v[8] = false → v[0] = true →
    (s.outBuf = [] ∨ s.sel = none → exec (.wrControl1 v) s = .next (recompute { s with
      acknowledgeEnable := v[10], periEn := true
      txnState := .idle, byteTransferFinished := false, dataRegisterEmpty := false })) ∧
    (∀ a, s.outBuf ≠ [] → s.sel = some a → exec (.wrControl1 v) s = .next (recompute { s with
      acknowledgeEnable := v[10], periEn := true
      slaveLog := s.slaveLog ++ [.write a s.outBuf], outBuf := []
      txnState := .idle, byteTransferFinished := false, dataRegisterEmpty := false }))

/-- R150, R101 (decisions D8, D10): a write of Control1 with bit 0 = 0 and no trigger bit clears six flags and recomputes,
whatever PeriEn was; a transaction in progress is left as it is. With bit 0 = 1 and no trigger it stores two bits. -/
def Obligations.PeripheralDisableClearsSixFlags : Prop :=
  ∀ (s : State) (v : Word), v[15] = false → v[9] = false → v[8] = false →
    (v[0] = false → exec (.wrControl1 v) s = .next (recompute { s with
      periEn := false, acknowledgeEnable := false, masterSlave := false, acknowledgeFailed := false
      transmitterReceiver := false, dataRegisterEmpty := false, byteTransferFinished := false })) ∧
    (v[0] = true → exec (.wrControl1 v) s = .next { s with
      acknowledgeEnable := v[10], periEn := true })

/-- R101, R217 (decision D9; U7): a write of Control1 that carries several active bits acts as STOP, then START, then the
store with its peripheral-disable, one write each; with bit 15 = 1 it acts as RESET and nothing else. -/
def Obligations.CombinedControl1WritesActInOrder : Prop :=
  ∀ (s : State) (v : Word),
    (v[15] = true → exec (.wrControl1 v) s = exec .reset s) ∧
    (v[15] = false → exec (.wrControl1 v) s =
      runOps ((if v[9] then [.wrControl1 ((v &&& 0x400) ||| 0x201)] else [])
        ++ (if v[8] then [.wrControl1 ((v &&& 0x400) ||| 0x101)] else [])
        ++ [.wrControl1 (v &&& 0x401)]) s)

/-- R145 (decisions D19, D23): a write-direction address phase to a registered slave selects it, sets its flags and enters
AwaitingData with an empty buffer; the lines move only at the next QUIESCE. -/
def Obligations.AddressPhaseForWriting : Prop :=
  ∀ (s : State) (v : Word), s.txnState = .awaitingAddress → v[0] = false → v.extractLsb' 1 7 ∈ s.params.slaves →
    exec (.wrData v) s = .next { s with
      startBit := false, sel := some (v.extractLsb' 1 7), addressSentOrMatched := true, transmitterReceiver := true
      outBuf := [], dataRegisterEmpty := true, txnState := .awaitingData, pending := s.pending ++ [.recompute] }

/-- R145, R202 (decisions D18, D19, D23; log 6): a read-direction address phase to a registered slave makes one `Read`
call when the queue is empty and none otherwise, sets its flags and enters ReceivingData, even if no byte came. -/
def Obligations.AddressPhaseForReading : Prop :=
  ∀ (s : State) (v : Word), s.txnState = .awaitingAddress → v[0] = true → v.extractLsb' 1 7 ∈ s.params.slaves →
    (s.inQ = [] → exec (.wrData v) s = .next { s with
      startBit := false, sel := some (v.extractLsb' 1 7), addressSentOrMatched := true, transmitterReceiver := false
      inQ := nextAnswer s
      slaveLog := s.slaveLog ++ [.read (v.extractLsb' 1 7) s.params.readCount (nextAnswer s)]
      answers := s.answers.tail, answerCount := s.answerCount + 1
      byteTransferFinished := true, txnState := .receivingData, pending := s.pending ++ [.recompute] }) ∧
    (s.inQ ≠ [] → exec (.wrData v) s = .next { s with
      startBit := false, sel := some (v.extractLsb' 1 7), addressSentOrMatched := true, transmitterReceiver := false
      byteTransferFinished := true, txnState := .receivingData, pending := s.pending ++ [.recompute] })

/-- R145, R210 E1, R211 (decision D23): an address that is not registered sets AcknowledgeFailed, clears StartBit, returns
to Idle and defers the recompute; the selected slave and the other flags stay, and no slave is called. -/
def Obligations.UnregisteredAddressIsNotAcknowledged : Prop :=
  ∀ (s : State) (v : Word), s.txnState = .awaitingAddress → v.extractLsb' 1 7 ∉ s.params.slaves →
    exec (.wrData v) s = .next { s with
      startBit := false, acknowledgeFailed := true, txnState := .idle, pending := s.pending ++ [.recompute] }

/-- R146: a data byte written in AwaitingData is appended to the Outgoing Buffer; its two flags and the recompute are
deferred, and nothing else changes inside the write; at the QUIESCE that runs them the flags are set and the lines
recomputed. -/
def Obligations.DataByteIsAppendedAndItsFlagsDeferred : Prop :=
  ∀ (s : State) (b : Byte), s.txnState = .awaitingData →
    exec (.wrData (b.setWidth 32)) s =
      .next { s with outBuf := s.outBuf ++ [b], pending := s.pending ++ [.dataWriteDone] } ∧
    (s.pending = [] → runOps [.wrData (b.setWidth 32), .quiesce] s =
      .next (recompute { s with
        outBuf := s.outBuf ++ [b], dataRegisterEmpty := true, byteTransferFinished := true }))

/-- R147: a write of Data in Idle or ReceivingData records InvalidStateWrite and changes nothing else. -/
def Obligations.DataWriteInTheWrongStateIsIgnored : Prop :=
  ∀ (s : State) (v : Word), (s.txnState = .idle ∨ s.txnState = .receivingData) →
    exec (.wrData v) s = .next { s with diagLog := s.diagLog ++ [.invalidStateWrite] }

/-- R84 (c), R144 (decision D23): bits 31:8 of a value written to Data are ignored, in every state. -/
def Obligations.UpperBitsOfADataWriteAreIgnored : Prop :=
  ∀ (s : State) (v w : Word), (∀ j, j < 8 → v.getLsbD j = w.getLsbD j) → exec (.wrData v) s = exec (.wrData w) s

/-- R148, R202 (decisions D16, D18, D21; conflicts C1, C8; log 6): a read of Data in ReceivingData takes the head byte, or
returns 0 with EmptyQueueRead; it makes no slave call while a byte remains, and when none remains one `Read` call,
whose answer is queued, sets ByteTransferFinished accordingly, and defers a receive pulse if it brought bytes. -/
def Obligations.ReadingDataWhileReceiving : Prop :=
  ∀ s : State, s.txnState = .receivingData →
    (∀ b c rest, s.inQ = b :: c :: rest → exec .rdData s =
      .next { recompute { s with inQ := c :: rest } with readData := some (b.setWidth 32) }) ∧
    (∀ a pulse, s.sel = some a → s.inQ.length ≤ 1 →
      pulse = (if nextAnswer s ≠ [] ∧ (s.params.dmaRxPulseRequiresDmaEn = true → s.dmaEnable = true)
        then [Action.dmaRxPulse] else []) →
      exec .rdData s = .next { recompute { s with
          inQ := nextAnswer s, byteTransferFinished := decide (nextAnswer s ≠ [])
          slaveLog := s.slaveLog ++ [.read a s.params.readCount (nextAnswer s)]
          answers := s.answers.tail, answerCount := s.answerCount + 1
          diagLog := s.diagLog ++ (if s.inQ = [] then [.emptyQueueRead] else [])
          pending := s.pending ++ pulse } with
        readData := some ((s.inQ.headD 0).setWidth 32) })

/-- R148 (decision D20): a read of Data in the other three states takes a left-over byte and recomputes, or returns 0 with
EmptyQueueRead and nothing else; it calls no slave. -/
def Obligations.ReadingDataOutsideReceiving : Prop :=
  ∀ s : State, s.txnState ≠ .receivingData →
    (s.inQ = [] → exec .rdData s =
      .next { s with diagLog := s.diagLog ++ [.emptyQueueRead], readData := some 0 }) ∧
    (∀ b rest, s.inQ = b :: rest → exec .rdData s =
      .next { recompute { s with inQ := rest } with readData := some (b.setWidth 32) })

/-- R148 corner 1, conflict C1 (S4 as amended): in ReceivingData with more bytes queued than are read, n reads return the
first n bytes in order, call no slave, defer nothing and leave the rest queued. -/
def Obligations.DrainingReturnsTheQueueInOrder : Prop :=
  ∀ (s : State) (first rest : List Byte), s.txnState = .receivingData → s.inQ = first ++ rest → rest ≠ [] →
    ∃ t, readDataTimes first.length s = some (first.map (·.setWidth 32), t) ∧
      t.inQ = rest ∧ t.txnState = .receivingData ∧ t.sel = s.sel ∧ t.slaveLog = s.slaveLog ∧
      t.pending = s.pending ∧ t.answers = s.answers

/-- R245, R143, R146, S3 (decisions D9, D23, D24; log 30): START and a write-direction address byte from a state with an
empty buffer, then any mix of operations other than writes of Control1 and RESET, among them QUIESCE at any points, then
a STOP: the slave gets one `Write` with exactly the bytes written to Data in between, in order (none if there were
none), and no other call; the buffer is empty after. -/
def Obligations.WriteTransactionDeliversItsBytes : Prop :=
  ∀ (s : State) (start addr stop : Word) (ops : List Instr),
    s.outBuf = [] →
    start[15] = false → start[8] = true →
    addr[0] = false → addr.extractLsb' 1 7 ∈ s.params.slaves →
    (∀ i ∈ ops, keepsTransaction i = true) →
    stop[15] = false → stop[9] = true →
    ∃ t, runOps (.wrControl1 start :: .wrData addr :: (ops ++ [.wrControl1 stop])) s = .next t ∧
      t.slaveLog = s.slaveLog ++
        (if ops.filterMap sentByte = [] then [] else [.write (addr.extractLsb' 1 7) (ops.filterMap sentByte)]) ∧
      t.outBuf = [] ∧ t.txnState = (if stop[8] then .awaitingAddress else .idle)

/-- R143, R34: whatever the operation, a `Write` call is made by a STOP or a START and carries the whole Outgoing Buffer,
non-empty, in its order, to the selected slave, and the buffer is empty after it; the buffer changes otherwise only by one
byte appended by a write of Data in AwaitingData, or to empty by a write-direction address phase or a reset; it is never
partially flushed, and it is empty outside AwaitingData from every state that has R44 (1). -/
def Obligations.OutgoingBufferIsFlushedWholeOrNotAtAll : Prop :=
  ∀ (i : Instr) (s t : State), exec i s = .next t →
    (∀ (new : List SlaveCall) (a : SlaveAddr) (bytes : List Byte),
      t.slaveLog = s.slaveLog ++ new → SlaveCall.write a bytes ∈ new →
      (isStopOp i = true ∨ isStartOp i = true) ∧
      new = [.write a bytes] ∧ s.sel = some a ∧ bytes = s.outBuf ∧ s.outBuf ≠ [] ∧ t.outBuf = []) ∧
    (t.outBuf = s.outBuf ∨
      (∃ v, i = .wrData v ∧ s.txnState = .awaitingData ∧ t.outBuf = s.outBuf ++ [v.extractLsb' 0 8]) ∨
      (t.outBuf = [] ∧
        ((∃ a, s.sel = some a ∧ t.slaveLog = s.slaveLog ++ [.write a s.outBuf] ∧
            (isStopOp i = true ∨ isStartOp i = true)) ∨
         (isAddressOp s i = true ∧ addressFound s i = true ∧ addressReads i = false) ∨ isResetOp i = true))) ∧
    (s.bufferSound → t.txnState ≠ .awaitingData → t.outBuf = [])

/-- R35, R202 (decisions D11, D18, D19): the Incoming Queue changes only by losing its head to a read of Data, by a `Read`
call that finds it empty and queues the whole answer, or by a reset; a `Read` call goes to the slave selected after the
operation, with READ_COUNT, at most one an operation. -/
def Obligations.IncomingQueueIsAFifoRefilledOnlyWhenEmpty : Prop :=
  ∀ (i : Instr) (s t : State), exec i s = .next t →
    (t.inQ = s.inQ ∨ (i = .rdData ∧ t.inQ = s.inQ.tail) ∨ (isResetOp i = true ∧ t.inQ = []) ∨
      (∃ a, t.sel = some a ∧ t.inQ = nextAnswer s ∧
        t.slaveLog = s.slaveLog ++ [.read a s.params.readCount (nextAnswer s)])) ∧
    (∀ (new : List SlaveCall) (a : SlaveAddr) (n : Nat) (bytes : List Byte),
      t.slaveLog = s.slaveLog ++ new → SlaveCall.read a n bytes ∈ new →
      new = [.read a n bytes] ∧ t.sel = some a ∧ n = s.params.readCount ∧ bytes = nextAnswer s ∧ t.inQ = bytes ∧
      ((i = .rdData ∧ s.txnState = .receivingData ∧ s.inQ.length ≤ 1) ∨
       (isAddressOp s i = true ∧ addressFound s i = true ∧ addressReads i = true ∧ s.inQ = [])))

/-! ## Flags -/

/-- R43, R215 (decisions D10, D11, D13, D21): what sets and what clears each flag of Status1; nothing else does. -/
def Obligations.Status1FlagsHaveTheirListedWritersOnly : Prop :=
  ∀ (i : Instr) (s t : State), exec i s = .next t →
    (s.startBit = false → t.startBit = true → isStartOp i = true) ∧
    (s.startBit = true → t.startBit = false → isAddressOp s i = true ∨ isResetOp i = true) ∧
    (s.addressSentOrMatched = false → t.addressSentOrMatched = true →
      isAddressOp s i = true ∧ addressFound s i = true) ∧
    (s.addressSentOrMatched = true → t.addressSentOrMatched = false → i = .rdStatus2 ∨ isResetOp i = true) ∧
    (s.byteTransferFinished = false → t.byteTransferFinished = true →
      (isAddressOp s i = true ∧ addressFound s i = true ∧ addressReads i = true) ∨
      (i = .quiesce ∧ Action.dataWriteDone ∈ s.pending) ∨
      (i = .rdData ∧ s.txnState = .receivingData ∧ s.inQ.length ≤ 1 ∧ nextAnswer s ≠ [])) ∧
    (s.byteTransferFinished = true → t.byteTransferFinished = false →
      isStartOp i = true ∨ isStopOp i = true ∨ isDisableOp i = true ∨ isResetOp i = true ∨
      (i = .rdData ∧ s.txnState = .receivingData ∧ s.inQ.length ≤ 1 ∧ nextAnswer s = [])) ∧
    (s.dataRegisterEmpty = false → t.dataRegisterEmpty = true →
      (isAddressOp s i = true ∧ addressFound s i = true ∧ addressReads i = false) ∨
      (i = .quiesce ∧ Action.dataWriteDone ∈ s.pending)) ∧
    (s.dataRegisterEmpty = true → t.dataRegisterEmpty = false →
      isStartOp i = true ∨ isStopOp i = true ∨ isDisableOp i = true ∨ isResetOp i = true) ∧
    (s.acknowledgeFailed = false → t.acknowledgeFailed = true →
      isAddressOp s i = true ∧ addressFound s i = false) ∧
    (s.acknowledgeFailed = true → t.acknowledgeFailed = false →
      (∃ v, i = .wrStatus1 v ∧ v[10] = false) ∨ (i = .rdStatus1 ∧ s.params.afReadClears = true) ∨
      isDisableOp i = true ∨ isResetOp i = true)

/-- R43, R254 (decisions D8, D10, D11): what sets and what clears MasterSlave, TransmitterReceiver and AcknowledgeEnable;
nothing else does. -/
def Obligations.RoleFlagsHaveTheirListedWritersOnly : Prop :=
  ∀ (i : Instr) (s t : State), exec i s = .next t →
    (s.masterSlave = false → t.masterSlave = true → isStartOp i = true) ∧
    (s.masterSlave = true → t.masterSlave = false → isDisableOp i = true ∨ isResetOp i = true) ∧
    (s.transmitterReceiver = false → t.transmitterReceiver = true →
      isAddressOp s i = true ∧ addressFound s i = true ∧ addressReads i = false) ∧
    (s.transmitterReceiver = true → t.transmitterReceiver = false →
      (isAddressOp s i = true ∧ addressFound s i = true ∧ addressReads i = true) ∨
      isStartOp i = true ∨ isDisableOp i = true ∨ isResetOp i = true) ∧
    (s.acknowledgeEnable = false → t.acknowledgeEnable = true →
      ∃ v, i = .wrControl1 v ∧ v[10] = true ∧ v[0] = true ∧ v[15] = false) ∧
    (s.acknowledgeEnable = true → t.acknowledgeEnable = false →
      (∃ v, i = .wrControl1 v ∧ (v[10] = false ∨ v[0] = false)) ∨ isResetOp i = true)

/-! ## Interrupt lines -/

/-- R170, R171 (decision D17, log 24: only a change of level is recorded): a recompute sets both interrupt lines to the
source's function of the present fields, records the changes, Event first, and changes nothing else. -/
def Obligations.RecomputeIsTheSourcesFunction : Prop :=
  ∀ (s : State) (event error : Bool),
    event = (s.eventInterruptEnable && (s.startBit || s.addressSentOrMatched || s.byteTransferFinished
      || (s.bufferInterruptEnable && (s.dataRegisterEmpty || decide (s.inQ ≠ []))))) →
    error = (s.errorInterruptEnable && s.acknowledgeFailed) →
    recompute s = { s with
      lines := { s.lines with eventInterrupt := event, errorInterrupt := error }
      lineLog := s.lineLog ++ (if s.lines.eventInterrupt = event then [] else [(.eventInterrupt, event)])
        ++ (if s.lines.errorInterrupt = error then [] else [(.errorInterrupt, error)]) }

/-- R173 (1), S5: a second recompute with unchanged fields changes nothing, LineLog included. -/
def Obligations.RecomputeIsIdempotent : Prop :=
  ∀ s : State, recompute (recompute s) = recompute s

/-- R32: DataRegisterNotEmpty is "incoming queue non-empty" at the moment it is asked for, by a read of Status1 and by
Recompute: in every state, whatever was queued before. -/
def Obligations.NotEmptyFlagIsTheQueueAtThatMoment : Prop :=
  ∀ s : State,
    (∃ t w, exec .rdStatus1 s = .next t ∧ t.readData = some w ∧ (w[6] = true ↔ s.inQ ≠ [])) ∧
    (s.eventInterruptEnable = true → s.bufferInterruptEnable = true → s.startBit = false →
      s.addressSentOrMatched = false → s.byteTransferFinished = false → s.dataRegisterEmpty = false →
      ((recompute s).lines.eventInterrupt = true ↔ s.inQ ≠ []))

/-- R37, R171, R39 (decision D17): LineLog is the exact record of the lines: every operation appends to it a sequence of
changes of level that leads from the levels before to the levels after. -/
def Obligations.LineLogRecordsEveryChangeOfLevel : Prop :=
  ∀ (i : Instr) (s t : State), exec i s = .next t →
    ∃ new, t.lineLog = s.lineLog ++ new ∧ t.lines = replayLog new s.lines ∧ allChanges new s.lines = true

/-- R172, R219, R250 (decisions D10, D14, D15, D20): an interrupt line rises only in QUIESCE or in an operation that
recomputes at once; so never in a write of Data, in a lone START, or in arming an enable. -/
def Obligations.InterruptLinesRiseOnlyInARecompute : Prop :=
  ∀ (i : Instr) (s t : State), exec i s = .next t →
    ((s.lines.eventInterrupt = false ∧ t.lines.eventInterrupt = true) ∨
      (s.lines.errorInterrupt = false ∧ t.lines.errorInterrupt = true)) →
    i = .quiesce ∨ i = .rdData ∨ i = .rdStatus1 ∨ i = .rdStatus2 ∨ (∃ v, i = .wrStatus1 v) ∨
    isStopOp i = true ∨ isDisableOp i = true ∨
    (∃ v, i = .wrControl2 v ∧ ((s.errorInterruptEnable = true ∧ v[8] = false) ∨
      (s.eventInterruptEnable = true ∧ v[9] = false) ∨
      (s.bufferInterruptEnable = true ∧ v[10] = false)))

/-! ## Deferred actions -/

/-- R193, R191 (decision D31, log 30: one QUIESCE runs all that is pending): an operation other than QUIESCE only appends
to Pending, and what it does and returns does not depend on what is pending: nothing pending is run, removed, reordered or
seen by it, `Reset()` included; QUIESCE runs all that is pending in submission order and leaves nothing. -/
def Obligations.DeferredActionsWaitForQuiesceInOrder : Prop :=
  (∀ (i : Instr) (s t : State), i ≠ .quiesce → exec i s = .next t →
    ∃ new, t.pending = s.pending ++ new ∧
      ∀ p, exec i { s with pending := p } = .next { t with pending := p ++ new }) ∧
  (∀ s : State, exec .quiesce s =
    .next (s.pending.foldl (fun u a => runAction a u) { s with pending := [] }))

/-- R191, R192, R182 (decision D31): QUIESCE always completes; what each deferred action does when it runs alone; and
with nothing pending QUIESCE changes nothing. -/
def Obligations.EachDeferredActionHasItsEffect : Prop :=
  ∀ s : State,
    (s.pending = [] → exec .quiesce s = .next s) ∧
    (s.pending = [.recompute] → exec .quiesce s = .next (recompute { s with pending := [] })) ∧
    (s.pending = [.dataWriteDone] → exec .quiesce s =
      .next (recompute { s with pending := [], dataRegisterEmpty := true, byteTransferFinished := true })) ∧
    (s.pending = [.dmaRxPulse] → exec .quiesce s = .next { s with
      pending := [], lines := { s.lines with dmaReceive := true }
      lineLog := s.lineLog ++ (if s.lines.dmaReceive then [(.dmaReceive, false)] else [])
        ++ [(.dmaReceive, true)] })

/-- R191, R192 (decision D31): QUIESCE completes in every state and can change only DataRegisterEmpty and
ByteTransferFinished, each only to true, the lines, LineLog, and Pending, which it empties. -/
def Obligations.QuiesceChangesOnlyFlagsAndLines : Prop :=
  ∀ s : State, ∃ ls log,
    exec .quiesce s = .next { s with
      dataRegisterEmpty := s.dataRegisterEmpty || s.pending.contains .dataWriteDone
      byteTransferFinished := s.byteTransferFinished || s.pending.contains .dataWriteDone
      lines := ls, lineLog := log, pending := [] }

/-- R173 (2), R191, R192 (decision D31): after a QUIESCE that ran a recompute or a data-write completion, both interrupt
lines equal the function of the fields. -/
def Obligations.QuiesceBringsInterruptLinesUpToDate : Prop :=
  ∀ s t : State, (Action.recompute ∈ s.pending ∨ Action.dataWriteDone ∈ s.pending) → exec .quiesce s = .next t →
    t.lines.eventInterrupt = eventLevel t ∧ t.lines.errorInterrupt = errorLevel t

/-- R211, R145, R103, S2 (decision D15): a failed address moves no line inside its write; after the next QUIESCE
ErrorInterrupt is high if and only if ErrorInterruptEnable was set; enabling it later, in a write that disarms nothing,
raises the line at the QUIESCE after that write and not inside it. -/
def Obligations.FailedAddressRaisesErrorInterruptAtQuiesce : Prop :=
  (∀ (s : State) (v : Word), s.txnState = .awaitingAddress → v.extractLsb' 1 7 ∉ s.params.slaves →
    ∃ t u, exec (.wrData v) s = .next t ∧ t.lines = s.lines ∧ exec .quiesce t = .next u ∧
      u.txnState = .idle ∧ u.acknowledgeFailed = true ∧ u.lines.errorInterrupt = s.errorInterruptEnable) ∧
  (∀ (s : State) (v : Word), s.acknowledgeFailed = true → s.errorInterruptEnable = false → v[8] = true →
    (s.eventInterruptEnable = true → v[9] = true) → (s.bufferInterruptEnable = true → v[10] = true) →
    ∃ t u, exec (.wrControl2 v) s = .next t ∧ t.lines.errorInterrupt = s.lines.errorInterrupt ∧
      exec .quiesce t = .next u ∧ u.lines.errorInterrupt = true)

/-! ## Reset and hazards -/

/-- R240, R241, R46 (decisions D11, D12): RESET gives every register, flag, buffer and line its power-on value, records the
falls of the lines that were high, calls no slave, and leaves Pending and the traces otherwise as they are. -/
def Obligations.ResetRestoresThePowerOnValues : Prop :=
  ∀ s : State, exec .reset s = .next { State.reset with
    pending := s.pending
    lineLog := s.lineLog ++ (if s.lines.eventInterrupt then [(.eventInterrupt, false)] else [])
      ++ (if s.lines.errorInterrupt then [(.errorInterrupt, false)] else [])
      ++ (if s.lines.dmaTransmit then [(.dmaTransmit, false)] else [])
      ++ (if s.lines.dmaReceive then [(.dmaReceive, false)] else [])
    slaveLog := s.slaveLog, diagLog := s.diagLog, readData := s.readData
    requests := s.requests, params := s.params, answers := s.answers, answerCount := s.answerCount }

/-- R46, R242, R30 (decisions D11, D33): what the ten registers read as at power-on; only RiseTime's 2 is the source's. -/
def Obligations.RegistersReadTheirResetValues : Prop :=
  exec .rdControl1 State.reset = .next { State.reset with readData := some 0 } ∧
  exec .rdControl2 State.reset = .next { State.reset with readData := some 0 } ∧
  exec .rdOwnAddress1 State.reset = .next { State.reset with readData := some 0 } ∧
  exec .rdOwnAddress2 State.reset = .next { State.reset with readData := some 0 } ∧
  exec .rdData State.reset = .next { State.reset with readData := some 0, diagLog := [.emptyQueueRead] } ∧
  exec .rdStatus1 State.reset = .next { State.reset with readData := some 0 } ∧
  exec .rdStatus2 State.reset = .next { State.reset with readData := some 0 } ∧
  exec .rdClockControl State.reset = .next { State.reset with readData := some 0 } ∧
  exec .rdRiseTime State.reset = .next { State.reset with readData := some 0x00000002 } ∧
  exec .rdNoiseFilter State.reset = .next { State.reset with readData := some 0 }

/-- R249, conflict C2 (decision D12): actions pending at a reset still run at the next QUIESCE: a data-write completion
leaves Status1 reading 0x84 and the interrupt lines low, a receive pulse leaves DMAReceive high though DmaEnable is
false. -/
def Obligations.ActionsPendingAtAResetStillRun : Prop :=
  ∀ s : State, ∃ t, runOps [.reset, .quiesce] s = .next t ∧
    (Action.dataWriteDone ∈ s.pending → status1Value t = 0x00000084) ∧
    (Action.dataWriteDone ∉ s.pending → status1Value t = 0x00000000) ∧
    t.lines.eventInterrupt = false ∧ t.lines.errorInterrupt = false ∧
    (t.lines.dmaReceive = true ↔ Action.dmaRxPulse ∈ s.pending) ∧ t.lines.dmaTransmit = false ∧
    t.dmaEnable = false ∧ t.pending = []

/-- R247 (decisions D9, D31): a STOP that overtakes a data write's completion is overtaken by it: after the QUIESCE both
flags are true in Idle, and EventInterrupt is high if it is enabled. -/
def Obligations.StopBeforeQuiesceLeavesTheFlagsSet : Prop :=
  ∀ (s : State) (v : Word), Action.dataWriteDone ∈ s.pending →
    v[15] = false → v[9] = true → v[8] = false →
    ∃ t, runOps [.wrControl1 v, .quiesce] s = .next t ∧ t.txnState = .idle ∧
      t.byteTransferFinished = true ∧ t.dataRegisterEmpty = true ∧
      t.lines.eventInterrupt = s.eventInterruptEnable

/-! ## Whole-machine rules -/

/-- R44 (1) to (3), R242: the power-on state is sound. -/
def Obligations.PowerOnStateIsSound : Prop := State.reset.Sound

/-- R44: every step of the machine keeps the invariants of R44, from every sound state. -/
def Obligations.EveryStepKeepsSoundness : Prop :=
  ∀ s t : State, s.Sound → step s = .next t → t.Sound

/-- R210, R44: in a sound state every operation, with every operand, returns normally, in a sound state. -/
def Obligations.EveryOperationReturnsInASoundState : Prop :=
  ∀ (s : State) (i : Instr), s.Sound → ∃ t, exec i s = .next t ∧ t.Sound

/-- R210, R143, R202 (log 12, the model's choice): no operation is ever refused; the only fault is a START that must flush,
or a read of Data that must refill, with no slave selected, and it happens exactly then. -/
def Obligations.OperationsStopOnlyWithoutASelectedSlave : Prop :=
  (∀ (i : Instr) (s : State) (r : Refusal), exec i s ≠ .refused r) ∧
  (∀ (i : Instr) (s : State), exec i s = .fault .noSelectedSlave ↔
    s.sel = none ∧
    ((i = .rdData ∧ s.txnState = .receivingData ∧ s.inQ.length ≤ 1) ∨
     (isStartOp i = true ∧ s.outBuf ≠ [] ∧ (isStopOp i = true ∨ s.txnState ≠ .awaitingAddress))))

/-- R40, R200, R7 (decision D30; log 1, log 4, log 6): no operation changes the parameters, the registry among them, or
what is still issued; it takes at most one of the given answers, and only with a `Read` call. -/
def Obligations.ParametersAndInputsAreNotTheBlocksToChange : Prop :=
  ∀ (i : Instr) (s t : State), exec i s = .next t →
    t.params = s.params ∧ t.requests = s.requests ∧
    ((t.answers = s.answers ∧ t.answerCount = s.answerCount) ∨
     (t.answers = s.answers.tail ∧ t.answerCount = s.answerCount + 1 ∧
       ∃ a, t.slaveLog = s.slaveLog ++ [.read a s.params.readCount (nextAnswer s)]))

/-- R39, R148 corner 3, R210 (decision D27): the traces only grow; one operation makes at most one slave call, and records
exactly the diagnostic the table of R210 gives. -/
def Obligations.TracesGrowByAtMostOneCallAndItsDiagnostic : Prop :=
  ∀ (i : Instr) (s t : State), exec i s = .next t →
    (∃ calls, t.slaveLog = s.slaveLog ++ calls ∧ calls.length ≤ 1) ∧
    t.diagLog = s.diagLog ++ diagOf s i

/-- R24, R25, R29 to R31, R41, R183, R221, R222 (decisions D6, D8, D34, D35): two states that differ only in the five
stored-only registers, Freq, DmaLastTransfer, AcknowledgeEnable, PeriEn and the last value read go, under every
operation, to two states that differ only in those: they influence no transition, line, slave call or deferred action. -/
def Obligations.StoredOnlyFieldsInfluenceNothing : Prop :=
  ∀ (i : Instr) (s s' t : State), coreOf s = coreOf s' → exec i s = .next t →
    ∃ t', exec i s' = .next t' ∧ coreOf t = coreOf t'

/-- R44 (4), R36, U1 (decision D25): in Idle and AwaitingAddress with an empty buffer the lingering selection makes no
difference: with any other selection every operation has the same effect, and either the selections are equal after
it, or the same situation holds again. -/
def Obligations.ALingeringSelectionIsNotObservable : Prop :=
  ∀ (i : Instr) (s t : State) (x : Option SlaveAddr),
    (s.txnState = .idle ∨ s.txnState = .awaitingAddress) → s.outBuf = [] → exec i s = .next t →
    exec i { s with sel := x } = .next t ∨
    (exec i { s with sel := x } = .next { t with sel := x } ∧
      (t.txnState = .idle ∨ t.txnState = .awaitingAddress) ∧ t.outBuf = [])
end

