-- ==== Sys2Proof/Laws/Operands.lean ====
section
/-! SUPPORT. The bits of the values that reads assemble. -/

namespace Sys2Proof.Machine

/-! ## Fields of a written value (R22, R23, R84 a) -/

@[simp] theorem softwareResetOf_eq (v : Word) : softwareResetOf v = v[15] := rfl

@[simp] theorem acknowledgeEnableOf_eq (v : Word) : acknowledgeEnableOf v = v[10] := rfl

@[simp] theorem stopGenOf_eq (v : Word) : stopGenOf v = v[9] := rfl

@[simp] theorem startGenOf_eq (v : Word) : startGenOf v = v[8] := rfl

@[simp] theorem periEnOf_eq (v : Word) : periEnOf v = v[0] := rfl

@[simp] theorem dmaLastTransferOf_eq (v : Word) : dmaLastTransferOf v = v[12] := rfl

@[simp] theorem dmaEnableOf_eq (v : Word) : dmaEnableOf v = v[11] := rfl

@[simp] theorem bufferInterruptEnableOf_eq (v : Word) : bufferInterruptEnableOf v = v[10] := rfl

@[simp] theorem eventInterruptEnableOf_eq (v : Word) : eventInterruptEnableOf v = v[9] := rfl

@[simp] theorem errorInterruptEnableOf_eq (v : Word) : errorInterruptEnableOf v = v[8] := rfl

@[simp] theorem acknowledgeFailedOf_eq (v : Word) : acknowledgeFailedOf v = v[10] := rfl

/-- The byte of a byte value is the value (R84 c). -/
@[simp] theorem dataByteOf_setWidth (b : Byte) : dataByteOf (b.setWidth 32) = b := by
  apply BitVec.eq_of_getLsbD_eq
  intro i hi
  simp [dataByteOf, hi]
  omega

/-- The direction bit of the byte a value carries is the value's bit 0 (R84 c, d). -/
@[simp] theorem directionIsRead_dataByteOf (v : Word) : directionIsRead (dataByteOf v) = v[0] := by
  simp [directionIsRead, dataByteOf]

/-- The address of the byte a value carries is the value's bits 7:1 (R84 c, d). -/
@[simp] theorem addressOf_dataByteOf (v : Word) : addressOf (dataByteOf v) = v.extractLsb' 1 7 := by
  apply BitVec.eq_of_getLsbD_eq
  intro i hi
  simp [addressOf, dataByteOf, hi]

/-! ## Read values -/

/-- A placed Boolean is that Boolean at its own position and 0 elsewhere. -/
@[simp] theorem placed_bit (b : Bool) (i j : Nat) :
    (placed b i).getLsbD j = (b && decide (j = i) && decide (i < 32)) := by
  have one : ∀ k, (1#32).getLsbD k = decide (k = 0) := by
    intro k; rcases k with _ | k <;> simp [BitVec.getLsbD_one]
  cases b
  · simp [placed]
  · simp only [placed, if_true, BitVec.getLsbD_shiftLeft, one]
    by_cases h : j = i
    · subst h; simp
    · simp [h]; omega

theorem control1Value_bit (s : State) (j : Nat) :
    (control1Value s).getLsbD j
      = ((s.acknowledgeEnable && decide (j = 10)) || (s.periEn && decide (j = 0))) := by
  simp [control1Value]

theorem control2Value_bit (s : State) (j : Nat) :
    (control2Value s).getLsbD j
      = ((s.dmaLastTransfer && decide (j = 12)) || (s.dmaEnable && decide (j = 11))
        || (s.bufferInterruptEnable && decide (j = 10)) || (s.eventInterruptEnable && decide (j = 9))
        || (s.errorInterruptEnable && decide (j = 8)) || (decide (j < 32) && s.freq.getLsbD j)) := by
  simp [control2Value]

theorem status1Value_bit (s : State) (j : Nat) :
    (status1Value s).getLsbD j
      = ((s.acknowledgeFailed && decide (j = 10)) || (s.dataRegisterEmpty && decide (j = 7))
        || (dataRegisterNotEmpty s && decide (j = 6)) || (s.byteTransferFinished && decide (j = 2))
        || (s.addressSentOrMatched && decide (j = 1)) || (s.startBit && decide (j = 0))) := by
  simp [status1Value]

theorem status2Value_bit (s : State) (j : Nat) :
    (status2Value s).getLsbD j
      = ((s.transmitterReceiver && decide (j = 2)) || (s.masterSlave && decide (j = 0))) := by
  simp [status2Value]

end Sys2Proof.Machine
end

