-- ==== Sys2Proof/Laws/State.lean ====
section
/-! SUPPORT. What each basic operation does to each field of State, one lemma a field, so that no proof unfolds a record update. -/

namespace Sys2Proof.Machine

/-! ## Drive -/

@[simp] theorem drive_acknowledgeEnable (l : Line) (b : Bool) (s : State) :
    (drive l b s).acknowledgeEnable = s.acknowledgeEnable := rfl
@[simp] theorem drive_periEn (l : Line) (b : Bool) (s : State) :
    (drive l b s).periEn = s.periEn := rfl
@[simp] theorem drive_freq (l : Line) (b : Bool) (s : State) :
    (drive l b s).freq = s.freq := rfl
@[simp] theorem drive_errorInterruptEnable (l : Line) (b : Bool) (s : State) :
    (drive l b s).errorInterruptEnable = s.errorInterruptEnable := rfl
@[simp] theorem drive_eventInterruptEnable (l : Line) (b : Bool) (s : State) :
    (drive l b s).eventInterruptEnable = s.eventInterruptEnable := rfl
@[simp] theorem drive_bufferInterruptEnable (l : Line) (b : Bool) (s : State) :
    (drive l b s).bufferInterruptEnable = s.bufferInterruptEnable := rfl
@[simp] theorem drive_dmaEnable (l : Line) (b : Bool) (s : State) :
    (drive l b s).dmaEnable = s.dmaEnable := rfl
@[simp] theorem drive_dmaLastTransfer (l : Line) (b : Bool) (s : State) :
    (drive l b s).dmaLastTransfer = s.dmaLastTransfer := rfl
@[simp] theorem drive_ownAddress1 (l : Line) (b : Bool) (s : State) :
    (drive l b s).ownAddress1 = s.ownAddress1 := rfl
@[simp] theorem drive_ownAddress2 (l : Line) (b : Bool) (s : State) :
    (drive l b s).ownAddress2 = s.ownAddress2 := rfl
@[simp] theorem drive_startBit (l : Line) (b : Bool) (s : State) :
    (drive l b s).startBit = s.startBit := rfl
@[simp] theorem drive_addressSentOrMatched (l : Line) (b : Bool) (s : State) :
    (drive l b s).addressSentOrMatched = s.addressSentOrMatched := rfl
@[simp] theorem drive_byteTransferFinished (l : Line) (b : Bool) (s : State) :
    (drive l b s).byteTransferFinished = s.byteTransferFinished := rfl
@[simp] theorem drive_dataRegisterEmpty (l : Line) (b : Bool) (s : State) :
    (drive l b s).dataRegisterEmpty = s.dataRegisterEmpty := rfl
@[simp] theorem drive_acknowledgeFailed (l : Line) (b : Bool) (s : State) :
    (drive l b s).acknowledgeFailed = s.acknowledgeFailed := rfl
@[simp] theorem drive_masterSlave (l : Line) (b : Bool) (s : State) :
    (drive l b s).masterSlave = s.masterSlave := rfl
@[simp] theorem drive_transmitterReceiver (l : Line) (b : Bool) (s : State) :
    (drive l b s).transmitterReceiver = s.transmitterReceiver := rfl
@[simp] theorem drive_clockControl (l : Line) (b : Bool) (s : State) :
    (drive l b s).clockControl = s.clockControl := rfl
@[simp] theorem drive_riseTime (l : Line) (b : Bool) (s : State) :
    (drive l b s).riseTime = s.riseTime := rfl
@[simp] theorem drive_noiseFilter (l : Line) (b : Bool) (s : State) :
    (drive l b s).noiseFilter = s.noiseFilter := rfl
@[simp] theorem drive_txnState (l : Line) (b : Bool) (s : State) :
    (drive l b s).txnState = s.txnState := rfl
@[simp] theorem drive_outBuf (l : Line) (b : Bool) (s : State) :
    (drive l b s).outBuf = s.outBuf := rfl
@[simp] theorem drive_inQ (l : Line) (b : Bool) (s : State) :
    (drive l b s).inQ = s.inQ := rfl
@[simp] theorem drive_sel (l : Line) (b : Bool) (s : State) :
    (drive l b s).sel = s.sel := rfl
@[simp] theorem drive_lines (l : Line) (b : Bool) (s : State) :
    (drive l b s).lines = withLevel s.lines l b := rfl
@[simp] theorem drive_pending (l : Line) (b : Bool) (s : State) :
    (drive l b s).pending = s.pending := rfl
@[simp] theorem drive_lineLog (l : Line) (b : Bool) (s : State) :
    (drive l b s).lineLog = s.lineLog ++ if levelOf s.lines l = b then [] else [(l, b)] := rfl
@[simp] theorem drive_slaveLog (l : Line) (b : Bool) (s : State) :
    (drive l b s).slaveLog = s.slaveLog := rfl
@[simp] theorem drive_diagLog (l : Line) (b : Bool) (s : State) :
    (drive l b s).diagLog = s.diagLog := rfl
@[simp] theorem drive_readData (l : Line) (b : Bool) (s : State) :
    (drive l b s).readData = s.readData := rfl
@[simp] theorem drive_requests (l : Line) (b : Bool) (s : State) :
    (drive l b s).requests = s.requests := rfl
@[simp] theorem drive_params (l : Line) (b : Bool) (s : State) :
    (drive l b s).params = s.params := rfl
@[simp] theorem drive_answers (l : Line) (b : Bool) (s : State) :
    (drive l b s).answers = s.answers := rfl
@[simp] theorem drive_answerCount (l : Line) (b : Bool) (s : State) :
    (drive l b s).answerCount = s.answerCount := rfl

/-! ## Recompute -/

@[simp] theorem recompute_acknowledgeEnable (s : State) :
    (recompute s).acknowledgeEnable = s.acknowledgeEnable := rfl
@[simp] theorem recompute_periEn (s : State) :
    (recompute s).periEn = s.periEn := rfl
@[simp] theorem recompute_freq (s : State) :
    (recompute s).freq = s.freq := rfl
@[simp] theorem recompute_errorInterruptEnable (s : State) :
    (recompute s).errorInterruptEnable = s.errorInterruptEnable := rfl
@[simp] theorem recompute_eventInterruptEnable (s : State) :
    (recompute s).eventInterruptEnable = s.eventInterruptEnable := rfl
@[simp] theorem recompute_bufferInterruptEnable (s : State) :
    (recompute s).bufferInterruptEnable = s.bufferInterruptEnable := rfl
@[simp] theorem recompute_dmaEnable (s : State) :
    (recompute s).dmaEnable = s.dmaEnable := rfl
@[simp] theorem recompute_dmaLastTransfer (s : State) :
    (recompute s).dmaLastTransfer = s.dmaLastTransfer := rfl
@[simp] theorem recompute_ownAddress1 (s : State) :
    (recompute s).ownAddress1 = s.ownAddress1 := rfl
@[simp] theorem recompute_ownAddress2 (s : State) :
    (recompute s).ownAddress2 = s.ownAddress2 := rfl
@[simp] theorem recompute_startBit (s : State) :
    (recompute s).startBit = s.startBit := rfl
@[simp] theorem recompute_addressSentOrMatched (s : State) :
    (recompute s).addressSentOrMatched = s.addressSentOrMatched := rfl
@[simp] theorem recompute_byteTransferFinished (s : State) :
    (recompute s).byteTransferFinished = s.byteTransferFinished := rfl
@[simp] theorem recompute_dataRegisterEmpty (s : State) :
    (recompute s).dataRegisterEmpty = s.dataRegisterEmpty := rfl
@[simp] theorem recompute_acknowledgeFailed (s : State) :
    (recompute s).acknowledgeFailed = s.acknowledgeFailed := rfl
@[simp] theorem recompute_masterSlave (s : State) :
    (recompute s).masterSlave = s.masterSlave := rfl
@[simp] theorem recompute_transmitterReceiver (s : State) :
    (recompute s).transmitterReceiver = s.transmitterReceiver := rfl
@[simp] theorem recompute_clockControl (s : State) :
    (recompute s).clockControl = s.clockControl := rfl
@[simp] theorem recompute_riseTime (s : State) :
    (recompute s).riseTime = s.riseTime := rfl
@[simp] theorem recompute_noiseFilter (s : State) :
    (recompute s).noiseFilter = s.noiseFilter := rfl
@[simp] theorem recompute_txnState (s : State) :
    (recompute s).txnState = s.txnState := rfl
@[simp] theorem recompute_outBuf (s : State) :
    (recompute s).outBuf = s.outBuf := rfl
@[simp] theorem recompute_inQ (s : State) :
    (recompute s).inQ = s.inQ := rfl
@[simp] theorem recompute_sel (s : State) :
    (recompute s).sel = s.sel := rfl
@[simp] theorem recompute_lines (s : State) :
    (recompute s).lines = { s.lines with eventInterrupt := eventLevel s, errorInterrupt := errorLevel s } := rfl
@[simp] theorem recompute_pending (s : State) :
    (recompute s).pending = s.pending := rfl
@[simp] theorem recompute_slaveLog (s : State) :
    (recompute s).slaveLog = s.slaveLog := rfl
@[simp] theorem recompute_diagLog (s : State) :
    (recompute s).diagLog = s.diagLog := rfl
@[simp] theorem recompute_readData (s : State) :
    (recompute s).readData = s.readData := rfl
@[simp] theorem recompute_requests (s : State) :
    (recompute s).requests = s.requests := rfl
@[simp] theorem recompute_params (s : State) :
    (recompute s).params = s.params := rfl
@[simp] theorem recompute_answers (s : State) :
    (recompute s).answers = s.answers := rfl
@[simp] theorem recompute_answerCount (s : State) :
    (recompute s).answerCount = s.answerCount := rfl

/-! ## Submit -/

@[simp] theorem submit_acknowledgeEnable (a : Action) (s : State) :
    (submit a s).acknowledgeEnable = s.acknowledgeEnable := rfl
@[simp] theorem submit_periEn (a : Action) (s : State) :
    (submit a s).periEn = s.periEn := rfl
@[simp] theorem submit_freq (a : Action) (s : State) :
    (submit a s).freq = s.freq := rfl
@[simp] theorem submit_errorInterruptEnable (a : Action) (s : State) :
    (submit a s).errorInterruptEnable = s.errorInterruptEnable := rfl
@[simp] theorem submit_eventInterruptEnable (a : Action) (s : State) :
    (submit a s).eventInterruptEnable = s.eventInterruptEnable := rfl
@[simp] theorem submit_bufferInterruptEnable (a : Action) (s : State) :
    (submit a s).bufferInterruptEnable = s.bufferInterruptEnable := rfl
@[simp] theorem submit_dmaEnable (a : Action) (s : State) :
    (submit a s).dmaEnable = s.dmaEnable := rfl
@[simp] theorem submit_dmaLastTransfer (a : Action) (s : State) :
    (submit a s).dmaLastTransfer = s.dmaLastTransfer := rfl
@[simp] theorem submit_ownAddress1 (a : Action) (s : State) :
    (submit a s).ownAddress1 = s.ownAddress1 := rfl
@[simp] theorem submit_ownAddress2 (a : Action) (s : State) :
    (submit a s).ownAddress2 = s.ownAddress2 := rfl
@[simp] theorem submit_startBit (a : Action) (s : State) :
    (submit a s).startBit = s.startBit := rfl
@[simp] theorem submit_addressSentOrMatched (a : Action) (s : State) :
    (submit a s).addressSentOrMatched = s.addressSentOrMatched := rfl
@[simp] theorem submit_byteTransferFinished (a : Action) (s : State) :
    (submit a s).byteTransferFinished = s.byteTransferFinished := rfl
@[simp] theorem submit_dataRegisterEmpty (a : Action) (s : State) :
    (submit a s).dataRegisterEmpty = s.dataRegisterEmpty := rfl
@[simp] theorem submit_acknowledgeFailed (a : Action) (s : State) :
    (submit a s).acknowledgeFailed = s.acknowledgeFailed := rfl
@[simp] theorem submit_masterSlave (a : Action) (s : State) :
    (submit a s).masterSlave = s.masterSlave := rfl
@[simp] theorem submit_transmitterReceiver (a : Action) (s : State) :
    (submit a s).transmitterReceiver = s.transmitterReceiver := rfl
@[simp] theorem submit_clockControl (a : Action) (s : State) :
    (submit a s).clockControl = s.clockControl := rfl
@[simp] theorem submit_riseTime (a : Action) (s : State) :
    (submit a s).riseTime = s.riseTime := rfl
@[simp] theorem submit_noiseFilter (a : Action) (s : State) :
    (submit a s).noiseFilter = s.noiseFilter := rfl
@[simp] theorem submit_txnState (a : Action) (s : State) :
    (submit a s).txnState = s.txnState := rfl
@[simp] theorem submit_outBuf (a : Action) (s : State) :
    (submit a s).outBuf = s.outBuf := rfl
@[simp] theorem submit_inQ (a : Action) (s : State) :
    (submit a s).inQ = s.inQ := rfl
@[simp] theorem submit_sel (a : Action) (s : State) :
    (submit a s).sel = s.sel := rfl
@[simp] theorem submit_lines (a : Action) (s : State) :
    (submit a s).lines = s.lines := rfl
@[simp] theorem submit_pending (a : Action) (s : State) :
    (submit a s).pending = s.pending ++ [a] := rfl
@[simp] theorem submit_lineLog (a : Action) (s : State) :
    (submit a s).lineLog = s.lineLog := rfl
@[simp] theorem submit_slaveLog (a : Action) (s : State) :
    (submit a s).slaveLog = s.slaveLog := rfl
@[simp] theorem submit_diagLog (a : Action) (s : State) :
    (submit a s).diagLog = s.diagLog := rfl
@[simp] theorem submit_readData (a : Action) (s : State) :
    (submit a s).readData = s.readData := rfl
@[simp] theorem submit_requests (a : Action) (s : State) :
    (submit a s).requests = s.requests := rfl
@[simp] theorem submit_params (a : Action) (s : State) :
    (submit a s).params = s.params := rfl
@[simp] theorem submit_answers (a : Action) (s : State) :
    (submit a s).answers = s.answers := rfl
@[simp] theorem submit_answerCount (a : Action) (s : State) :
    (submit a s).answerCount = s.answerCount := rfl

/-! ## Diag -/

@[simp] theorem diag_acknowledgeEnable (k : DiagKind) (s : State) :
    (diag k s).acknowledgeEnable = s.acknowledgeEnable := rfl
@[simp] theorem diag_periEn (k : DiagKind) (s : State) :
    (diag k s).periEn = s.periEn := rfl
@[simp] theorem diag_freq (k : DiagKind) (s : State) :
    (diag k s).freq = s.freq := rfl
@[simp] theorem diag_errorInterruptEnable (k : DiagKind) (s : State) :
    (diag k s).errorInterruptEnable = s.errorInterruptEnable := rfl
@[simp] theorem diag_eventInterruptEnable (k : DiagKind) (s : State) :
    (diag k s).eventInterruptEnable = s.eventInterruptEnable := rfl
@[simp] theorem diag_bufferInterruptEnable (k : DiagKind) (s : State) :
    (diag k s).bufferInterruptEnable = s.bufferInterruptEnable := rfl
@[simp] theorem diag_dmaEnable (k : DiagKind) (s : State) :
    (diag k s).dmaEnable = s.dmaEnable := rfl
@[simp] theorem diag_dmaLastTransfer (k : DiagKind) (s : State) :
    (diag k s).dmaLastTransfer = s.dmaLastTransfer := rfl
@[simp] theorem diag_ownAddress1 (k : DiagKind) (s : State) :
    (diag k s).ownAddress1 = s.ownAddress1 := rfl
@[simp] theorem diag_ownAddress2 (k : DiagKind) (s : State) :
    (diag k s).ownAddress2 = s.ownAddress2 := rfl
@[simp] theorem diag_startBit (k : DiagKind) (s : State) :
    (diag k s).startBit = s.startBit := rfl
@[simp] theorem diag_addressSentOrMatched (k : DiagKind) (s : State) :
    (diag k s).addressSentOrMatched = s.addressSentOrMatched := rfl
@[simp] theorem diag_byteTransferFinished (k : DiagKind) (s : State) :
    (diag k s).byteTransferFinished = s.byteTransferFinished := rfl
@[simp] theorem diag_dataRegisterEmpty (k : DiagKind) (s : State) :
    (diag k s).dataRegisterEmpty = s.dataRegisterEmpty := rfl
@[simp] theorem diag_acknowledgeFailed (k : DiagKind) (s : State) :
    (diag k s).acknowledgeFailed = s.acknowledgeFailed := rfl
@[simp] theorem diag_masterSlave (k : DiagKind) (s : State) :
    (diag k s).masterSlave = s.masterSlave := rfl
@[simp] theorem diag_transmitterReceiver (k : DiagKind) (s : State) :
    (diag k s).transmitterReceiver = s.transmitterReceiver := rfl
@[simp] theorem diag_clockControl (k : DiagKind) (s : State) :
    (diag k s).clockControl = s.clockControl := rfl
@[simp] theorem diag_riseTime (k : DiagKind) (s : State) :
    (diag k s).riseTime = s.riseTime := rfl
@[simp] theorem diag_noiseFilter (k : DiagKind) (s : State) :
    (diag k s).noiseFilter = s.noiseFilter := rfl
@[simp] theorem diag_txnState (k : DiagKind) (s : State) :
    (diag k s).txnState = s.txnState := rfl
@[simp] theorem diag_outBuf (k : DiagKind) (s : State) :
    (diag k s).outBuf = s.outBuf := rfl
@[simp] theorem diag_inQ (k : DiagKind) (s : State) :
    (diag k s).inQ = s.inQ := rfl
@[simp] theorem diag_sel (k : DiagKind) (s : State) :
    (diag k s).sel = s.sel := rfl
@[simp] theorem diag_lines (k : DiagKind) (s : State) :
    (diag k s).lines = s.lines := rfl
@[simp] theorem diag_pending (k : DiagKind) (s : State) :
    (diag k s).pending = s.pending := rfl
@[simp] theorem diag_lineLog (k : DiagKind) (s : State) :
    (diag k s).lineLog = s.lineLog := rfl
@[simp] theorem diag_slaveLog (k : DiagKind) (s : State) :
    (diag k s).slaveLog = s.slaveLog := rfl
@[simp] theorem diag_diagLog (k : DiagKind) (s : State) :
    (diag k s).diagLog = s.diagLog ++ [k] := rfl
@[simp] theorem diag_readData (k : DiagKind) (s : State) :
    (diag k s).readData = s.readData := rfl
@[simp] theorem diag_requests (k : DiagKind) (s : State) :
    (diag k s).requests = s.requests := rfl
@[simp] theorem diag_params (k : DiagKind) (s : State) :
    (diag k s).params = s.params := rfl
@[simp] theorem diag_answers (k : DiagKind) (s : State) :
    (diag k s).answers = s.answers := rfl
@[simp] theorem diag_answerCount (k : DiagKind) (s : State) :
    (diag k s).answerCount = s.answerCount := rfl

/-! ## The value of a read -/

@[simp] theorem returnValue_acknowledgeEnable (v : Word) (s : State) :
    (returnValue v s).acknowledgeEnable = s.acknowledgeEnable := rfl
@[simp] theorem returnValue_periEn (v : Word) (s : State) :
    (returnValue v s).periEn = s.periEn := rfl
@[simp] theorem returnValue_freq (v : Word) (s : State) :
    (returnValue v s).freq = s.freq := rfl
@[simp] theorem returnValue_errorInterruptEnable (v : Word) (s : State) :
    (returnValue v s).errorInterruptEnable = s.errorInterruptEnable := rfl
@[simp] theorem returnValue_eventInterruptEnable (v : Word) (s : State) :
    (returnValue v s).eventInterruptEnable = s.eventInterruptEnable := rfl
@[simp] theorem returnValue_bufferInterruptEnable (v : Word) (s : State) :
    (returnValue v s).bufferInterruptEnable = s.bufferInterruptEnable := rfl
@[simp] theorem returnValue_dmaEnable (v : Word) (s : State) :
    (returnValue v s).dmaEnable = s.dmaEnable := rfl
@[simp] theorem returnValue_dmaLastTransfer (v : Word) (s : State) :
    (returnValue v s).dmaLastTransfer = s.dmaLastTransfer := rfl
@[simp] theorem returnValue_ownAddress1 (v : Word) (s : State) :
    (returnValue v s).ownAddress1 = s.ownAddress1 := rfl
@[simp] theorem returnValue_ownAddress2 (v : Word) (s : State) :
    (returnValue v s).ownAddress2 = s.ownAddress2 := rfl
@[simp] theorem returnValue_startBit (v : Word) (s : State) :
    (returnValue v s).startBit = s.startBit := rfl
@[simp] theorem returnValue_addressSentOrMatched (v : Word) (s : State) :
    (returnValue v s).addressSentOrMatched = s.addressSentOrMatched := rfl
@[simp] theorem returnValue_byteTransferFinished (v : Word) (s : State) :
    (returnValue v s).byteTransferFinished = s.byteTransferFinished := rfl
@[simp] theorem returnValue_dataRegisterEmpty (v : Word) (s : State) :
    (returnValue v s).dataRegisterEmpty = s.dataRegisterEmpty := rfl
@[simp] theorem returnValue_acknowledgeFailed (v : Word) (s : State) :
    (returnValue v s).acknowledgeFailed = s.acknowledgeFailed := rfl
@[simp] theorem returnValue_masterSlave (v : Word) (s : State) :
    (returnValue v s).masterSlave = s.masterSlave := rfl
@[simp] theorem returnValue_transmitterReceiver (v : Word) (s : State) :
    (returnValue v s).transmitterReceiver = s.transmitterReceiver := rfl
@[simp] theorem returnValue_clockControl (v : Word) (s : State) :
    (returnValue v s).clockControl = s.clockControl := rfl
@[simp] theorem returnValue_riseTime (v : Word) (s : State) :
    (returnValue v s).riseTime = s.riseTime := rfl
@[simp] theorem returnValue_noiseFilter (v : Word) (s : State) :
    (returnValue v s).noiseFilter = s.noiseFilter := rfl
@[simp] theorem returnValue_txnState (v : Word) (s : State) :
    (returnValue v s).txnState = s.txnState := rfl
@[simp] theorem returnValue_outBuf (v : Word) (s : State) :
    (returnValue v s).outBuf = s.outBuf := rfl
@[simp] theorem returnValue_inQ (v : Word) (s : State) :
    (returnValue v s).inQ = s.inQ := rfl
@[simp] theorem returnValue_sel (v : Word) (s : State) :
    (returnValue v s).sel = s.sel := rfl
@[simp] theorem returnValue_lines (v : Word) (s : State) :
    (returnValue v s).lines = s.lines := rfl
@[simp] theorem returnValue_pending (v : Word) (s : State) :
    (returnValue v s).pending = s.pending := rfl
@[simp] theorem returnValue_lineLog (v : Word) (s : State) :
    (returnValue v s).lineLog = s.lineLog := rfl
@[simp] theorem returnValue_slaveLog (v : Word) (s : State) :
    (returnValue v s).slaveLog = s.slaveLog := rfl
@[simp] theorem returnValue_diagLog (v : Word) (s : State) :
    (returnValue v s).diagLog = s.diagLog := rfl
@[simp] theorem returnValue_readData (v : Word) (s : State) :
    (returnValue v s).readData = some v := rfl
@[simp] theorem returnValue_requests (v : Word) (s : State) :
    (returnValue v s).requests = s.requests := rfl
@[simp] theorem returnValue_params (v : Word) (s : State) :
    (returnValue v s).params = s.params := rfl
@[simp] theorem returnValue_answers (v : Word) (s : State) :
    (returnValue v s).answers = s.answers := rfl
@[simp] theorem returnValue_answerCount (v : Word) (s : State) :
    (returnValue v s).answerCount = s.answerCount := rfl

/-! ## SlaveRead -/

@[simp] theorem slaveRead_acknowledgeEnable (a : SlaveAddr) (s : State) :
    (slaveRead a s).acknowledgeEnable = s.acknowledgeEnable := rfl
@[simp] theorem slaveRead_periEn (a : SlaveAddr) (s : State) :
    (slaveRead a s).periEn = s.periEn := rfl
@[simp] theorem slaveRead_freq (a : SlaveAddr) (s : State) :
    (slaveRead a s).freq = s.freq := rfl
@[simp] theorem slaveRead_errorInterruptEnable (a : SlaveAddr) (s : State) :
    (slaveRead a s).errorInterruptEnable = s.errorInterruptEnable := rfl
@[simp] theorem slaveRead_eventInterruptEnable (a : SlaveAddr) (s : State) :
    (slaveRead a s).eventInterruptEnable = s.eventInterruptEnable := rfl
@[simp] theorem slaveRead_bufferInterruptEnable (a : SlaveAddr) (s : State) :
    (slaveRead a s).bufferInterruptEnable = s.bufferInterruptEnable := rfl
@[simp] theorem slaveRead_dmaEnable (a : SlaveAddr) (s : State) :
    (slaveRead a s).dmaEnable = s.dmaEnable := rfl
@[simp] theorem slaveRead_dmaLastTransfer (a : SlaveAddr) (s : State) :
    (slaveRead a s).dmaLastTransfer = s.dmaLastTransfer := rfl
@[simp] theorem slaveRead_ownAddress1 (a : SlaveAddr) (s : State) :
    (slaveRead a s).ownAddress1 = s.ownAddress1 := rfl
@[simp] theorem slaveRead_ownAddress2 (a : SlaveAddr) (s : State) :
    (slaveRead a s).ownAddress2 = s.ownAddress2 := rfl
@[simp] theorem slaveRead_startBit (a : SlaveAddr) (s : State) :
    (slaveRead a s).startBit = s.startBit := rfl
@[simp] theorem slaveRead_addressSentOrMatched (a : SlaveAddr) (s : State) :
    (slaveRead a s).addressSentOrMatched = s.addressSentOrMatched := rfl
@[simp] theorem slaveRead_byteTransferFinished (a : SlaveAddr) (s : State) :
    (slaveRead a s).byteTransferFinished = s.byteTransferFinished := rfl
@[simp] theorem slaveRead_dataRegisterEmpty (a : SlaveAddr) (s : State) :
    (slaveRead a s).dataRegisterEmpty = s.dataRegisterEmpty := rfl
@[simp] theorem slaveRead_acknowledgeFailed (a : SlaveAddr) (s : State) :
    (slaveRead a s).acknowledgeFailed = s.acknowledgeFailed := rfl
@[simp] theorem slaveRead_masterSlave (a : SlaveAddr) (s : State) :
    (slaveRead a s).masterSlave = s.masterSlave := rfl
@[simp] theorem slaveRead_transmitterReceiver (a : SlaveAddr) (s : State) :
    (slaveRead a s).transmitterReceiver = s.transmitterReceiver := rfl
@[simp] theorem slaveRead_clockControl (a : SlaveAddr) (s : State) :
    (slaveRead a s).clockControl = s.clockControl := rfl
@[simp] theorem slaveRead_riseTime (a : SlaveAddr) (s : State) :
    (slaveRead a s).riseTime = s.riseTime := rfl
@[simp] theorem slaveRead_noiseFilter (a : SlaveAddr) (s : State) :
    (slaveRead a s).noiseFilter = s.noiseFilter := rfl
@[simp] theorem slaveRead_txnState (a : SlaveAddr) (s : State) :
    (slaveRead a s).txnState = s.txnState := rfl
@[simp] theorem slaveRead_outBuf (a : SlaveAddr) (s : State) :
    (slaveRead a s).outBuf = s.outBuf := rfl
@[simp] theorem slaveRead_inQ (a : SlaveAddr) (s : State) :
    (slaveRead a s).inQ = s.inQ := rfl
@[simp] theorem slaveRead_sel (a : SlaveAddr) (s : State) :
    (slaveRead a s).sel = s.sel := rfl
@[simp] theorem slaveRead_lines (a : SlaveAddr) (s : State) :
    (slaveRead a s).lines = s.lines := rfl
@[simp] theorem slaveRead_pending (a : SlaveAddr) (s : State) :
    (slaveRead a s).pending = s.pending := rfl
@[simp] theorem slaveRead_lineLog (a : SlaveAddr) (s : State) :
    (slaveRead a s).lineLog = s.lineLog := rfl
@[simp] theorem slaveRead_slaveLog (a : SlaveAddr) (s : State) :
    (slaveRead a s).slaveLog = s.slaveLog ++ [.read a s.params.readCount (nextAnswer s)] := rfl
@[simp] theorem slaveRead_diagLog (a : SlaveAddr) (s : State) :
    (slaveRead a s).diagLog = s.diagLog := rfl
@[simp] theorem slaveRead_readData (a : SlaveAddr) (s : State) :
    (slaveRead a s).readData = s.readData := rfl
@[simp] theorem slaveRead_requests (a : SlaveAddr) (s : State) :
    (slaveRead a s).requests = s.requests := rfl
@[simp] theorem slaveRead_params (a : SlaveAddr) (s : State) :
    (slaveRead a s).params = s.params := rfl
@[simp] theorem slaveRead_answers (a : SlaveAddr) (s : State) :
    (slaveRead a s).answers = s.answers.tail := rfl
@[simp] theorem slaveRead_answerCount (a : SlaveAddr) (s : State) :
    (slaveRead a s).answerCount = s.answerCount + 1 := rfl

/-! ## Flush -/

@[simp] theorem flushTo_acknowledgeEnable (a : SlaveAddr) (s : State) :
    (flushTo a s).acknowledgeEnable = s.acknowledgeEnable := rfl
@[simp] theorem flushTo_periEn (a : SlaveAddr) (s : State) :
    (flushTo a s).periEn = s.periEn := rfl
@[simp] theorem flushTo_freq (a : SlaveAddr) (s : State) :
    (flushTo a s).freq = s.freq := rfl
@[simp] theorem flushTo_errorInterruptEnable (a : SlaveAddr) (s : State) :
    (flushTo a s).errorInterruptEnable = s.errorInterruptEnable := rfl
@[simp] theorem flushTo_eventInterruptEnable (a : SlaveAddr) (s : State) :
    (flushTo a s).eventInterruptEnable = s.eventInterruptEnable := rfl
@[simp] theorem flushTo_bufferInterruptEnable (a : SlaveAddr) (s : State) :
    (flushTo a s).bufferInterruptEnable = s.bufferInterruptEnable := rfl
@[simp] theorem flushTo_dmaEnable (a : SlaveAddr) (s : State) :
    (flushTo a s).dmaEnable = s.dmaEnable := rfl
@[simp] theorem flushTo_dmaLastTransfer (a : SlaveAddr) (s : State) :
    (flushTo a s).dmaLastTransfer = s.dmaLastTransfer := rfl
@[simp] theorem flushTo_ownAddress1 (a : SlaveAddr) (s : State) :
    (flushTo a s).ownAddress1 = s.ownAddress1 := rfl
@[simp] theorem flushTo_ownAddress2 (a : SlaveAddr) (s : State) :
    (flushTo a s).ownAddress2 = s.ownAddress2 := rfl
@[simp] theorem flushTo_startBit (a : SlaveAddr) (s : State) :
    (flushTo a s).startBit = s.startBit := rfl
@[simp] theorem flushTo_addressSentOrMatched (a : SlaveAddr) (s : State) :
    (flushTo a s).addressSentOrMatched = s.addressSentOrMatched := rfl
@[simp] theorem flushTo_byteTransferFinished (a : SlaveAddr) (s : State) :
    (flushTo a s).byteTransferFinished = s.byteTransferFinished := rfl
@[simp] theorem flushTo_dataRegisterEmpty (a : SlaveAddr) (s : State) :
    (flushTo a s).dataRegisterEmpty = s.dataRegisterEmpty := rfl
@[simp] theorem flushTo_acknowledgeFailed (a : SlaveAddr) (s : State) :
    (flushTo a s).acknowledgeFailed = s.acknowledgeFailed := rfl
@[simp] theorem flushTo_masterSlave (a : SlaveAddr) (s : State) :
    (flushTo a s).masterSlave = s.masterSlave := rfl
@[simp] theorem flushTo_transmitterReceiver (a : SlaveAddr) (s : State) :
    (flushTo a s).transmitterReceiver = s.transmitterReceiver := rfl
@[simp] theorem flushTo_clockControl (a : SlaveAddr) (s : State) :
    (flushTo a s).clockControl = s.clockControl := rfl
@[simp] theorem flushTo_riseTime (a : SlaveAddr) (s : State) :
    (flushTo a s).riseTime = s.riseTime := rfl
@[simp] theorem flushTo_noiseFilter (a : SlaveAddr) (s : State) :
    (flushTo a s).noiseFilter = s.noiseFilter := rfl
@[simp] theorem flushTo_txnState (a : SlaveAddr) (s : State) :
    (flushTo a s).txnState = s.txnState := rfl
@[simp] theorem flushTo_outBuf (a : SlaveAddr) (s : State) :
    (flushTo a s).outBuf = [] := rfl
@[simp] theorem flushTo_inQ (a : SlaveAddr) (s : State) :
    (flushTo a s).inQ = s.inQ := rfl
@[simp] theorem flushTo_sel (a : SlaveAddr) (s : State) :
    (flushTo a s).sel = s.sel := rfl
@[simp] theorem flushTo_lines (a : SlaveAddr) (s : State) :
    (flushTo a s).lines = s.lines := rfl
@[simp] theorem flushTo_pending (a : SlaveAddr) (s : State) :
    (flushTo a s).pending = s.pending := rfl
@[simp] theorem flushTo_lineLog (a : SlaveAddr) (s : State) :
    (flushTo a s).lineLog = s.lineLog := rfl
@[simp] theorem flushTo_slaveLog (a : SlaveAddr) (s : State) :
    (flushTo a s).slaveLog = s.slaveLog ++ [.write a s.outBuf] := rfl
@[simp] theorem flushTo_diagLog (a : SlaveAddr) (s : State) :
    (flushTo a s).diagLog = s.diagLog := rfl
@[simp] theorem flushTo_readData (a : SlaveAddr) (s : State) :
    (flushTo a s).readData = s.readData := rfl
@[simp] theorem flushTo_requests (a : SlaveAddr) (s : State) :
    (flushTo a s).requests = s.requests := rfl
@[simp] theorem flushTo_params (a : SlaveAddr) (s : State) :
    (flushTo a s).params = s.params := rfl
@[simp] theorem flushTo_answers (a : SlaveAddr) (s : State) :
    (flushTo a s).answers = s.answers := rfl
@[simp] theorem flushTo_answerCount (a : SlaveAddr) (s : State) :
    (flushTo a s).answerCount = s.answerCount := rfl

end Sys2Proof.Machine
end

