-- ==== Sys2Proof/Laws/Ops.lean ====
section
/-! SUPPORT. What the shared operations can do, said once each: lines, recompute, deferred actions, flush, start. -/

namespace Sys2Proof.Machine

/-! ## Lines -/

@[simp] theorem levelOf_eventInterrupt (ls : Lines) : levelOf ls .eventInterrupt = ls.eventInterrupt := rfl

@[simp] theorem withLevel_eventInterrupt (ls : Lines) (b : Bool) :
    withLevel ls .eventInterrupt b = { ls with eventInterrupt := b } := rfl

@[simp] theorem levelOf_errorInterrupt (ls : Lines) : levelOf ls .errorInterrupt = ls.errorInterrupt := rfl

@[simp] theorem withLevel_errorInterrupt (ls : Lines) (b : Bool) :
    withLevel ls .errorInterrupt b = { ls with errorInterrupt := b } := rfl

@[simp] theorem levelOf_dmaTransmit (ls : Lines) : levelOf ls .dmaTransmit = ls.dmaTransmit := rfl

@[simp] theorem withLevel_dmaTransmit (ls : Lines) (b : Bool) :
    withLevel ls .dmaTransmit b = { ls with dmaTransmit := b } := rfl

@[simp] theorem levelOf_dmaReceive (ls : Lines) : levelOf ls .dmaReceive = ls.dmaReceive := rfl

@[simp] theorem withLevel_dmaReceive (ls : Lines) (b : Bool) :
    withLevel ls .dmaReceive b = { ls with dmaReceive := b } := rfl

theorem levelOf_withLevel (ls : Lines) (l l' : Line) (b : Bool) :
    levelOf (withLevel ls l b) l' = if l = l' then b else levelOf ls l' := by
  cases l <;> cases l' <;> rfl

theorem withLevel_levelOf (ls : Lines) (l : Line) : withLevel ls l (levelOf ls l) = ls := by
  cases l <;> rfl

/-- A drive to the level the line already has changes nothing (R171). -/
theorem drive_same (l : Line) (b : Bool) (s : State) (h : levelOf s.lines l = b) : drive l b s = s := by
  subst h; simp [drive, withLevel_levelOf]

/-- The level of a line after a drive. -/
theorem drive_level (l l' : Line) (b : Bool) (s : State) :
    levelOf (drive l b s).lines l' = if l = l' then b else levelOf s.lines l' := levelOf_withLevel s.lines l l' b

/-! ## Recompute -/

/-- Recompute's function reads no line and no trace. -/
@[simp] theorem eventLevel_drive (l : Line) (b : Bool) (s : State) : eventLevel (drive l b s) = eventLevel s := rfl

@[simp] theorem errorLevel_drive (l : Line) (b : Bool) (s : State) : errorLevel (drive l b s) = errorLevel s := rfl

@[simp] theorem eventLevel_recompute (s : State) : eventLevel (recompute s) = eventLevel s := rfl

@[simp] theorem errorLevel_recompute (s : State) : errorLevel (recompute s) = errorLevel s := rfl

/-- What Recompute adds to LineLog: Event first, then Error, each only on a change (R170, R171). -/
theorem recompute_lineLog (s : State) :
    (recompute s).lineLog = s.lineLog
      ++ (if s.lines.eventInterrupt = eventLevel s then [] else [(.eventInterrupt, eventLevel s)])
      ++ (if s.lines.errorInterrupt = errorLevel s then [] else [(.errorInterrupt, errorLevel s)]) := rfl

/-! ## Going on -/

@[simp] theorem andThen_next (s : State) (f : State → Result) : andThen (.next s) f = f s := rfl

@[simp] theorem andThen_fault (e : Fault) (f : State → Result) : andThen (.fault e) f = .fault e := rfl

@[simp] theorem andThen_refused (e : Refusal) (f : State → Result) : andThen (.refused e) f = .refused e := rfl

/-- A sequence ends in a next state only through a next state of its first part. -/
theorem andThen_eq_next {r : Result} {f : State → Result} {t : State} (h : andThen r f = .next t) :
    ∃ s, r = .next s ∧ f s = .next t := by
  cases r with
  | next s => exact ⟨s, rfl, h⟩
  | fault e => simp at h
  | refused e => simp at h

/-! ## Flush and START -/

/-- Flush goes on exactly when a slave is selected (R143). -/
theorem flush_eq_next {s t : State} (h : flush s = .next t) : ∃ a, s.sel = some a ∧ t = flushTo a s := by
  unfold flush at h
  split at h
  · next a ha => exact ⟨a, ha, by simpa using h.symm⟩
  · simp at h

/-- The three ways START goes on: a no-op in AwaitingAddress; the address phase opened; the buffer flushed first (R141). -/
theorem start_eq_next {s t : State} (h : start s = .next t) :
    (s.txnState = .awaitingAddress ∧ t = s) ∨
    (s.txnState ≠ .awaitingAddress ∧ s.outBuf = [] ∧ t = beginAddressPhase s) ∨
    (s.txnState ≠ .awaitingAddress ∧ s.outBuf ≠ [] ∧ ∃ a, s.sel = some a ∧ t = beginAddressPhase (flushTo a s)) := by
  by_cases hw : s.txnState = .awaitingAddress
  · left; simp [start, hw] at h; exact ⟨hw, h.symm⟩
  · right
    have h' : andThen (if s.outBuf.isEmpty then .next s else flush s)
        (fun s' => .next (beginAddressPhase s')) = .next t := by
      revert h; unfold start; split <;> simp_all
    by_cases hb : s.outBuf = []
    · left; simp [hb] at h'; exact ⟨hw, hb, h'.symm⟩
    · right
      simp [hb] at h'
      obtain ⟨u, hu, ht⟩ := andThen_eq_next h'
      obtain ⟨a, ha, rfl⟩ := flush_eq_next hu
      exact ⟨hw, hb, a, ha, by simpa using ht.symm⟩

/-! ## Deferred actions -/

/-- An action changes two flags, the lines and LineLog, and nothing else (R192). -/
theorem runAction_shape (a : Action) (s : State) :
    ∃ f g ls log, runAction a s = { s with
      dataRegisterEmpty := f, byteTransferFinished := g, lines := ls, lineLog := log } := by
  cases a
  · exact ⟨s.dataRegisterEmpty, s.byteTransferFinished, _, _, rfl⟩
  · exact ⟨true, true, _, _, rfl⟩
  · exact ⟨s.dataRegisterEmpty, s.byteTransferFinished, _, _, rfl⟩

/-- "No action submits another" (R191). -/
@[simp] theorem runAction_pending (a : Action) (s : State) : (runAction a s).pending = s.pending := by
  obtain ⟨f, g, ls, log, h⟩ := runAction_shape a s
  rw [h]

/-- QUIESCE changes two flags, the lines, LineLog and Pending, which it leaves empty, and nothing else (R191, R192). -/
theorem runPending_shape (as : List Action) (s : State) :
    ∃ f g ls log, runPending as s = { s with
      dataRegisterEmpty := f, byteTransferFinished := g, lines := ls, lineLog := log, pending := [] } := by
  induction as generalizing s with
  | nil => exact ⟨s.dataRegisterEmpty, s.byteTransferFinished, _, _, rfl⟩
  | cons a rest ih =>
    obtain ⟨f, g, ls, log, h⟩ := ih (runAction a { s with pending := rest })
    obtain ⟨f', g', ls', log', h'⟩ := runAction_shape a { s with pending := rest }
    exact ⟨f, g, ls, log, by simp only [runPending, h]; rw [h']⟩

/-- QUIESCE leaves Pending empty (R191). -/
@[simp] theorem runPending_pending (as : List Action) (s : State) : (runPending as s).pending = [] := by
  obtain ⟨f, g, ls, log, h⟩ := runPending_shape as s
  rw [h]

end Sys2Proof.Machine
end

