-- ==== Sys2Proof/Laws/Protocol.lean ====
section
/-! SUPPORT. What the Protocol State Machine's procedures and the two Data operations can do, said once each. -/

namespace Sys2Proof.Machine

/-! ## STOP and disable -/

/-- STOP's flush: nothing, or one call to the selected slave with a non-empty buffer (R142, R143). -/
theorem stopFlush_cases (s : State) :
    (stopFlush s = s ∧ (s.outBuf = [] ∨ s.sel = none)) ∨
    (∃ a, s.sel = some a ∧ s.outBuf ≠ [] ∧ stopFlush s = flushTo a s) := by
  unfold stopFlush
  split
  · next a ha =>
    by_cases hb : s.outBuf = []
    · left; simp [hb]
    · right; exact ⟨a, ha, hb, by simp [hb]⟩
  · next hn => exact .inl ⟨rfl, .inr hn⟩

/-- STOP with nothing to flush (R142). -/
theorem stop_of_no_flush {s : State} (h : s.outBuf = [] ∨ s.sel = none) :
    stop s = recompute { s with txnState := .idle, byteTransferFinished := false, dataRegisterEmpty := false } := by
  rcases stopFlush_cases s with ⟨hs, -⟩ | ⟨a, ha, hb, -⟩
  · rw [stop, hs]
  · rcases h with h | h <;> simp_all

/-- STOP with bytes to flush (R142, R143). -/
theorem stop_of_flush {s : State} {a : SlaveAddr} (ha : s.sel = some a) (hb : s.outBuf ≠ []) :
    stop s = recompute
      { flushTo a s with txnState := .idle, byteTransferFinished := false, dataRegisterEmpty := false } := by
  rcases stopFlush_cases s with ⟨-, h⟩ | ⟨a', ha', -, hs⟩
  · rcases h with h | h <;> simp_all
  · rw [ha] at ha'
    cases ha'
    rw [stop, hs]

/-! ## Address phase and data phase -/

/-- The four outcomes of a write of Data in AwaitingAddress (R145). -/
theorem addressPhase_cases (b : Byte) (s : State) :
    (addressOf b ∉ s.params.slaves ∧
      addressPhase b s = { s with
        startBit := false, acknowledgeFailed := true, txnState := .idle, pending := s.pending ++ [.recompute] }) ∨
    (addressOf b ∈ s.params.slaves ∧ directionIsRead b = false ∧
      addressPhase b s = { s with
        startBit := false, sel := some (addressOf b), addressSentOrMatched := true, transmitterReceiver := true
        outBuf := [], dataRegisterEmpty := true, txnState := .awaitingData
        pending := s.pending ++ [.recompute] }) ∨
    (addressOf b ∈ s.params.slaves ∧ directionIsRead b = true ∧ s.inQ ≠ [] ∧
      addressPhase b s = { s with
        startBit := false, sel := some (addressOf b), addressSentOrMatched := true, transmitterReceiver := false
        byteTransferFinished := true, txnState := .receivingData, pending := s.pending ++ [.recompute] }) ∨
    (addressOf b ∈ s.params.slaves ∧ directionIsRead b = true ∧ s.inQ = [] ∧
      addressPhase b s = { s with
        startBit := false, sel := some (addressOf b), addressSentOrMatched := true, transmitterReceiver := false
        inQ := nextAnswer s
        slaveLog := s.slaveLog ++ [.read (addressOf b) s.params.readCount (nextAnswer s)]
        answers := s.answers.tail, answerCount := s.answerCount + 1
        byteTransferFinished := true, txnState := .receivingData, pending := s.pending ++ [.recompute] }) := by
  by_cases hf : addressOf b ∈ s.params.slaves
  · by_cases hd : directionIsRead b = true
    · by_cases hq : s.inQ = []
      · right; right; right
        refine ⟨hf, hd, hq, ?_⟩
        simp only [addressPhase, hf, hd, if_true, selectForRead, addressFetch, hq, List.isEmpty_nil]
        rfl
      · right; right; left
        refine ⟨hf, hd, hq, ?_⟩
        simp only [addressPhase, hf, hd, if_true, selectForRead, addressFetch, List.isEmpty_iff, hq, if_false]
        rfl
    · right; left
      refine ⟨hf, by simpa using hd, ?_⟩
      simp only [addressPhase, hf, hd, if_true]
      rfl
  · left
    exact ⟨hf, by simp only [addressPhase, hf, if_false]; rfl⟩

/-! ## RD_Data -/

/-- The value of DataRegisterNotEmpty (R32). -/
theorem dataRegisterNotEmpty_eq (s : State) : dataRegisterNotEmpty s = decide (s.inQ ≠ []) := by
  cases h : s.inQ <;> simp [dataRegisterNotEmpty, h]

/-- A read of Data outside ReceivingData (R148). -/
theorem execRdData_elsewhere {s : State} (h : s.txnState ≠ .receivingData) :
    execRdData s =
      .next (returnValue (dataValue (headByte s)) (recomputeIfTook (dataRegisterNotEmpty s) (dequeue s))) := by
  unfold execRdData
  split <;> simp_all

/-- A read of Data in ReceivingData that leaves a byte queued: no slave call (R148). -/
theorem execRdData_more {s : State} {b c : Byte} {rest : List Byte} (h : s.txnState = .receivingData)
    (hq : s.inQ = b :: c :: rest) :
    execRdData s = .next (returnValue (dataValue b) (recompute { s with inQ := c :: rest })) := by
  simp [execRdData, h, receiveMore, dequeue, hq, headByte]

/-- A read of Data in ReceivingData that leaves nothing queued, with a slave selected: one `Read` call (R148). -/
theorem execRdData_refill {s : State} {a : SlaveAddr} (h : s.txnState = .receivingData) (hs : s.sel = some a)
    (hq : s.inQ.length ≤ 1) :
    execRdData s = .next (returnValue (dataValue (headByte s)) (recompute (refillFrom a (dequeue s)))) := by
  have hd : (dequeue s).inQ = [] ∧ (dequeue s).sel = some a := by
    unfold dequeue
    split
    · next hn => exact ⟨hn, hs⟩
    · next b rest hn =>
      rw [hn] at hq
      simp at hq
      exact ⟨hq, hs⟩
  simp [execRdData, h, receiveMore, refill, hd.1, hd.2]

/-- The same with no slave selected: the fault of log 12. -/
theorem execRdData_no_slave {s : State} (h : s.txnState = .receivingData) (hs : s.sel = none)
    (hq : s.inQ.length ≤ 1) : execRdData s = .fault .noSelectedSlave := by
  have hd : (dequeue s).inQ = [] ∧ (dequeue s).sel = none := by
    unfold dequeue
    split
    · next hn => exact ⟨hn, hs⟩
    · next b rest hn =>
      rw [hn] at hq
      simp at hq
      exact ⟨hq, hs⟩
  simp [execRdData, h, receiveMore, refill, hd.1, hd.2]

/-- The refill after the dequeue, field by field (R148, R202). -/
theorem refillFrom_dequeue (a : SlaveAddr) (s : State) :
    refillFrom a (dequeue s) = { s with
      inQ := nextAnswer s, byteTransferFinished := decide (nextAnswer s ≠ [])
      slaveLog := s.slaveLog ++ [.read a s.params.readCount (nextAnswer s)]
      answers := s.answers.tail, answerCount := s.answerCount + 1
      diagLog := s.diagLog ++ (if s.inQ = [] then [.emptyQueueRead] else [])
      pending := s.pending ++
        (if nextAnswer s ≠ [] ∧ (s.params.dmaRxPulseRequiresDmaEn = true → s.dmaEnable = true)
          then [.dmaRxPulse] else []) } := by
  have hn : nextAnswer (dequeue s) = nextAnswer s := by
    unfold dequeue
    split <;> rfl
  unfold refillFrom slaveRead
  rw [hn]
  generalize nextAnswer s = bytes
  have hb : (!bytes.isEmpty) = decide (bytes ≠ []) := by cases bytes <;> simp
  rw [hb]
  unfold submitPulse dequeue
  rw [hb]
  cases hq : s.inQ <;> cases bytes <;> cases hp : s.params.dmaRxPulseRequiresDmaEn <;> cases hd : s.dmaEnable <;>
    simp [hp, hd, submit, diag]

end Sys2Proof.Machine
end

