-- ==== Sys2Proof/Laws/RegisterBank.lean ====
section
/-! SUPPORT. What the parts of the Control2 and Control1 writes can do, said once each. -/

namespace Sys2Proof.Machine

/-! ## WR_Control2 -/

/-- The DMA part changes the lines and LineLog and nothing else (R180, R181). -/
theorem dmaPolicy_shape (old new : Bool) (s : State) :
    ∃ ls log, dmaPolicy old new s = { s with lines := ls, lineLog := log } := by
  unfold dmaPolicy dmaEnableRise raiseEdge dmaEnableFall
  split_ifs <;> exact ⟨_, _, rfl⟩

/-- The interrupt part changes the lines, LineLog and Pending and nothing else (R103). -/
theorem enablePolicy_shape (falls rises : Bool) (s : State) :
    ∃ ls log p, enablePolicy falls rises s = { s with lines := ls, lineLog := log, pending := p } := by
  unfold enablePolicy
  cases falls <;> cases rises <;> exact ⟨_, _, _, rfl⟩

/-- The DMA part leaves the interrupt lines alone. -/
theorem dmaPolicy_interrupts (old new : Bool) (s : State) :
    (dmaPolicy old new s).lines.eventInterrupt = s.lines.eventInterrupt ∧
    (dmaPolicy old new s).lines.errorInterrupt = s.lines.errorInterrupt := by
  unfold dmaPolicy dmaEnableRise raiseEdge dmaEnableFall
  split_ifs <;> exact ⟨rfl, rfl⟩

/-- The interrupt part leaves the DMA lines alone. -/
theorem enablePolicy_dmaLines (falls rises : Bool) (s : State) :
    (enablePolicy falls rises s).lines.dmaTransmit = s.lines.dmaTransmit ∧
    (enablePolicy falls rises s).lines.dmaReceive = s.lines.dmaReceive := by
  unfold enablePolicy
  cases falls <;> cases rises <;> exact ⟨rfl, rfl⟩

/-- A write of Control2 stores its fields and can change besides them only the lines, LineLog and Pending (R103). -/
theorem execWrControl2_shape (v : Word) (s : State) :
    ∃ ls log p, execWrControl2 v s = .next { storeControl2 v s with lines := ls, lineLog := log, pending := p } := by
  obtain ⟨ls, log, p, h⟩ :=
    enablePolicy_shape (enableFalls s v) (enableRises s v) (storeControl2 v s)
  obtain ⟨ls', log', h'⟩ := dmaPolicy_shape s.dmaEnable (dmaEnableOf v)
    (enablePolicy (enableFalls s v) (enableRises s v) (storeControl2 v s))
  exact ⟨ls', log', p, by unfold execWrControl2; rw [h', h]⟩

/-! ## WR_Control1 -/

/-- A write of Control1 without SoftwareReset goes on through a START that goes on, if it carries one (R101). -/
theorem execWrControl1_eq_next {v : Word} {s t : State} (h : execWrControl1 v s = .next t) :
    (softwareResetOf v = true ∧ t = resetBlock s) ∨
    (softwareResetOf v = false ∧ ∃ stopped started,
      stopped = (if stopGenOf v then stop (storeControl1 v s) else storeControl1 v s) ∧
      (startGenOf v = true ∧ start stopped = .next started ∨ startGenOf v = false ∧ started = stopped) ∧
      t = if periEnOf v then started else peripheralDisable started) := by
  unfold execWrControl1 at h
  by_cases hr : softwareResetOf v = true
  · left
    rw [if_pos hr] at h
    exact ⟨hr, by simpa using h.symm⟩
  · right
    rw [if_neg hr] at h
    obtain ⟨started, hs, ht⟩ := andThen_eq_next h
    refine ⟨by simpa using hr, _, started, rfl, ?_, by simpa using ht.symm⟩
    by_cases hg : startGenOf v = true
    · rw [if_pos hg] at hs
      exact .inl ⟨hg, hs⟩
    · rw [if_neg hg] at hs
      exact .inr ⟨by simpa using hg, by simpa using hs.symm⟩

/-- The clears of a read of Status1 or Status2 change one flag and what a recompute changes (R108, R110). -/
theorem clearAcknowledgeFailed_shape (s : State) :
    ∃ ls log, clearAcknowledgeFailed s = { s with acknowledgeFailed := false, lines := ls, lineLog := log } := by
  unfold clearAcknowledgeFailed
  split
  · exact ⟨_, _, rfl⟩
  · next h => exact ⟨s.lines, s.lineLog, by cases s; simp_all⟩

theorem clearAddressSent_shape (s : State) :
    ∃ ls log, clearAddressSent s = { s with addressSentOrMatched := false, lines := ls, lineLog := log } := by
  unfold clearAddressSent
  split
  · exact ⟨_, _, rfl⟩
  · next h => exact ⟨s.lines, s.lineLog, by cases s; simp_all⟩

end Sys2Proof.Machine
end

