-- ==== Sys2Proof/Laws/Cases.lean ====
section
/-! SUPPORT. The ways each operation with several outcomes goes on, as field updates: what a proof over all operations splits on. -/

namespace Sys2Proof.Machine

/-! ## Shapes -/

/-- A recompute changes the lines and LineLog and nothing else (R170). -/
theorem recompute_shape (s : State) : ∃ ls log, recompute s = { s with lines := ls, lineLog := log } :=
  ⟨_, _, rfl⟩

/-- Peripheral-disable clears six flags and recomputes (R150). -/
theorem peripheralDisable_shape (s : State) :
    ∃ ls log, peripheralDisable s = { s with
      acknowledgeEnable := false, masterSlave := false, acknowledgeFailed := false
      transmitterReceiver := false, dataRegisterEmpty := false, byteTransferFinished := false
      lines := ls, lineLog := log } := ⟨_, _, rfl⟩

/-- `Reset()` leaves all four lines low (R240). -/
theorem resetBlock_shape (s : State) :
    ∃ log, resetBlock s = { resetFields s with lines := Lines.low, lineLog := log } := ⟨_, rfl⟩

/-- STOP without a flush and STOP with one (R142). -/
theorem stop_cases (s : State) : ∃ ls log,
    ((s.outBuf = [] ∨ s.sel = none) ∧
      stop s = { s with
        txnState := .idle, byteTransferFinished := false, dataRegisterEmpty := false
        lines := ls, lineLog := log }) ∨
    (∃ a, s.sel = some a ∧ s.outBuf ≠ [] ∧
      stop s = { s with
        slaveLog := s.slaveLog ++ [.write a s.outBuf], outBuf := []
        txnState := .idle, byteTransferFinished := false, dataRegisterEmpty := false
        lines := ls, lineLog := log }) := by
  rcases stopFlush_cases s with ⟨-, h⟩ | ⟨a, ha, hb, -⟩
  · obtain ⟨ls, log, hr⟩ := recompute_shape
      { s with txnState := .idle, byteTransferFinished := false, dataRegisterEmpty := false }
    exact ⟨ls, log, .inl ⟨h, by rw [stop_of_no_flush h, hr]⟩⟩
  · obtain ⟨ls, log, hr⟩ := recompute_shape
      { flushTo a s with txnState := .idle, byteTransferFinished := false, dataRegisterEmpty := false }
    exact ⟨ls, log, .inr ⟨a, ha, hb, by rw [stop_of_flush ha hb, hr]; rfl⟩⟩

/-- The three ways START goes on, as field updates (R141). -/
theorem start_cases {s t : State} (h : start s = .next t) :
    (s.txnState = .awaitingAddress ∧ t = s) ∨
    (s.txnState ≠ .awaitingAddress ∧ s.outBuf = [] ∧ t = { s with
      transmitterReceiver := false, dataRegisterEmpty := false, byteTransferFinished := false
      startBit := true, masterSlave := true, txnState := .awaitingAddress
      pending := s.pending ++ [.recompute] }) ∨
    (s.txnState ≠ .awaitingAddress ∧ s.outBuf ≠ [] ∧ ∃ a, s.sel = some a ∧ t = { s with
      slaveLog := s.slaveLog ++ [.write a s.outBuf], outBuf := []
      transmitterReceiver := false, dataRegisterEmpty := false, byteTransferFinished := false
      startBit := true, masterSlave := true, txnState := .awaitingAddress
      pending := s.pending ++ [.recompute] }) := start_eq_next h

/-! ## WR_Control1 -/

/-- A write of Control1 that goes on, part by part (R101). -/
theorem execWrControl1_cases {v : Word} {s t : State} (h : execWrControl1 v s = .next t) :
    (v[15] = true ∧ t = resetBlock s) ∨
    (v[15] = false ∧ ∃ stopped started,
      (v[9] = true ∧ stopped = stop (storeControl1 v s) ∨ v[9] = false ∧ stopped = storeControl1 v s) ∧
      (v[8] = true ∧ start stopped = .next started ∨ v[8] = false ∧ started = stopped) ∧
      (v[0] = true ∧ t = started ∨ v[0] = false ∧ t = peripheralDisable started)) := by
  rcases execWrControl1_eq_next h with ⟨h1, h2⟩ | ⟨h1, st, sd, h2, h3, h4⟩
  · exact .inl ⟨h1, h2⟩
  · refine .inr ⟨h1, st, sd, ?_, h3, ?_⟩
    · cases hv : v[9] <;> simp [hv] at h2 <;> simp [h2]
    · cases hv : v[0] <;> simp [hv] at h4 <;> simp [h4]

/-! ## RD_Data -/

/-- The four ways a read of Data goes on (R148): a byte taken and more left; a refill; outside ReceivingData, nothing
queued; outside ReceivingData, a byte taken. -/
theorem execRdData_cases {s t : State} (h : execRdData s = .next t) : ∃ ls log v,
    (s.txnState = .receivingData ∧ ∃ b c rest, s.inQ = b :: c :: rest ∧
      t = { s with inQ := c :: rest, lines := ls, lineLog := log, readData := some v }) ∨
    (s.txnState = .receivingData ∧ s.inQ.length ≤ 1 ∧ ∃ a p, s.sel = some a ∧ t = { s with
      inQ := nextAnswer s, byteTransferFinished := decide (nextAnswer s ≠ [])
      slaveLog := s.slaveLog ++ [.read a s.params.readCount (nextAnswer s)]
      answers := s.answers.tail, answerCount := s.answerCount + 1
      diagLog := s.diagLog ++ (if s.inQ = [] then [.emptyQueueRead] else [])
      pending := s.pending ++ p, lines := ls, lineLog := log, readData := some v }) ∨
    (s.txnState ≠ .receivingData ∧ s.inQ = [] ∧
      t = { s with diagLog := s.diagLog ++ [.emptyQueueRead], readData := some v }) ∨
    (s.txnState ≠ .receivingData ∧ ∃ b rest, s.inQ = b :: rest ∧
      t = { s with inQ := rest, lines := ls, lineLog := log, readData := some v }) := by
  by_cases hs : s.txnState = .receivingData
  · by_cases hq : s.inQ.length ≤ 1
    · rcases Option.eq_none_or_eq_some s.sel with ha | ⟨a, ha⟩
      · rw [execRdData_no_slave hs ha hq] at h; cases h
      · rw [execRdData_refill hs ha hq, refillFrom_dequeue] at h
        obtain ⟨ls, log, hr⟩ := recompute_shape { s with
          inQ := nextAnswer s, byteTransferFinished := decide (nextAnswer s ≠ [])
          slaveLog := s.slaveLog ++ [.read a s.params.readCount (nextAnswer s)]
          answers := s.answers.tail, answerCount := s.answerCount + 1
          diagLog := s.diagLog ++ (if s.inQ = [] then [.emptyQueueRead] else [])
          pending := s.pending ++
            (if nextAnswer s ≠ [] ∧ (s.params.dmaRxPulseRequiresDmaEn = true → s.dmaEnable = true)
              then [.dmaRxPulse] else []) }
        rw [hr] at h
        cases h
        exact ⟨ls, log, _, .inr (.inl ⟨hs, hq, a, _, ha, rfl⟩)⟩
    · rcases hc : s.inQ with _ | ⟨b, _ | ⟨c, rest⟩⟩
      · simp [hc] at hq
      · simp [hc] at hq
      · rw [execRdData_more hs hc] at h
        cases h
        exact ⟨_, _, _, .inl ⟨hs, b, c, rest, rfl, rfl⟩⟩
  · rw [execRdData_elsewhere hs] at h
    cases h
    rcases hc : s.inQ with _ | ⟨b, rest⟩
    · refine ⟨s.lines, s.lineLog, 0, .inr (.inr (.inl ⟨hs, rfl, ?_⟩))⟩
      simp [dataRegisterNotEmpty, hc, recomputeIfTook, headByte, dequeue, returnValue, diag, dataValue]
    · obtain ⟨ls, log, hr⟩ := recompute_shape { s with inQ := rest }
      refine ⟨ls, log, dataValue b, .inr (.inr (.inr ⟨hs, b, rest, rfl, ?_⟩))⟩
      simp [dataRegisterNotEmpty, hc, recomputeIfTook, headByte, dequeue, hr, returnValue]

/-! ## WR_Data -/

/-- The six ways a write of Data goes on (R144 to R147). -/
theorem execWrData_cases {v : Word} {s t : State} (h : execWrData v s = .next t) :
    (s.txnState = .awaitingAddress ∧ v.extractLsb' 1 7 ∉ s.params.slaves ∧ t = { s with
      startBit := false, acknowledgeFailed := true, txnState := .idle, pending := s.pending ++ [.recompute] }) ∨
    (s.txnState = .awaitingAddress ∧ v.extractLsb' 1 7 ∈ s.params.slaves ∧ v[0] = false ∧ t = { s with
      startBit := false, sel := some (v.extractLsb' 1 7), addressSentOrMatched := true, transmitterReceiver := true
      outBuf := [], dataRegisterEmpty := true, txnState := .awaitingData
      pending := s.pending ++ [.recompute] }) ∨
    (s.txnState = .awaitingAddress ∧ v.extractLsb' 1 7 ∈ s.params.slaves ∧ v[0] = true ∧ s.inQ ≠ [] ∧ t = { s with
      startBit := false, sel := some (v.extractLsb' 1 7), addressSentOrMatched := true, transmitterReceiver := false
      byteTransferFinished := true, txnState := .receivingData, pending := s.pending ++ [.recompute] }) ∨
    (s.txnState = .awaitingAddress ∧ v.extractLsb' 1 7 ∈ s.params.slaves ∧ v[0] = true ∧ s.inQ = [] ∧ t = { s with
      startBit := false, sel := some (v.extractLsb' 1 7), addressSentOrMatched := true, transmitterReceiver := false
      inQ := nextAnswer s
      slaveLog := s.slaveLog ++ [.read (v.extractLsb' 1 7) s.params.readCount (nextAnswer s)]
      answers := s.answers.tail, answerCount := s.answerCount + 1
      byteTransferFinished := true, txnState := .receivingData, pending := s.pending ++ [.recompute] }) ∨
    (s.txnState = .awaitingData ∧ t = { s with
      outBuf := s.outBuf ++ [dataByteOf v], pending := s.pending ++ [.dataWriteDone] }) ∨
    ((s.txnState = .idle ∨ s.txnState = .receivingData) ∧
      t = { s with diagLog := s.diagLog ++ [.invalidStateWrite] }) := by
  unfold execWrData at h
  split at h
  · next hs =>
    cases h
    rcases addressPhase_cases (dataByteOf v) s with h | h | h | h <;>
      simp only [addressOf_dataByteOf, directionIsRead_dataByteOf] at h <;> tauto
  · next hs => cases h; exact .inr (.inr (.inr (.inr (.inl ⟨hs, rfl⟩))))
  · next hs => cases h; exact .inr (.inr (.inr (.inr (.inr ⟨.inl hs, rfl⟩))))
  · next hs => cases h; exact .inr (.inr (.inr (.inr (.inr ⟨.inr hs, rfl⟩))))

/-! ## Where START stops -/

/-- START stops exactly when it must flush and no slave is selected (R141, R143, log 12). -/
theorem start_eq_fault (s : State) :
    start s = .fault .noSelectedSlave ↔ s.txnState ≠ .awaitingAddress ∧ s.outBuf ≠ [] ∧ s.sel = none := by
  unfold start flush
  rcases hs : s.txnState <;> by_cases hb : s.outBuf = [] <;> rcases ha : s.sel with _ | a <;> simp [hb]

/-- STOP leaves the block in Idle (R142). -/
@[simp] theorem stop_txnState (s : State) : (stop s).txnState = .idle := rfl

/-- STOP keeps the selected slave (R142). -/
@[simp] theorem stop_sel (s : State) : (stop s).sel = s.sel := by
  obtain ⟨ls, log, ⟨-, h⟩ | ⟨a, -, -, h⟩⟩ := stop_cases s <;> rw [h]

/-- STOP empties the buffer, unless it had to flush and no slave was selected (R142 corner 3). -/
theorem stop_outBuf (s : State) : (stop s).outBuf = if s.sel = none then s.outBuf else [] := by
  obtain ⟨ls, log, ⟨h, hs⟩ | ⟨a, ha, -, hs⟩⟩ := stop_cases s
  · rw [hs]
    rcases h with h | h <;> simp [h]
  · rw [hs]
    simp [ha]

/-! ## Sequences -/

/-- Going on is associative. -/
theorem andThen_assoc (r : Result) (f g : State → Result) :
    andThen (andThen r f) g = andThen r fun s => andThen (f s) g := by cases r <;> rfl

end Sys2Proof.Machine
end

