-- ==== Sys2Proof/Laws/Decode.lean ====
section
/-! SUPPORT. The fields of a selector, and the way from an operation to the bus and back. -/

namespace Sys2Proof

/-- The bits of a selector made of a kind and an offset (R80). -/
theorem selector_bit (k : BitVec 2) (off : Offset) (i : Nat) :
    (k ++ off : BitVec 12).getLsbD i = if i < 10 then off.getLsbD i else k.getLsbD (i - 10) := by
  have h := BitVec.getLsbD_append (x := k) (y := off) (i := i)
  rw [h]

@[simp] theorem kind_of_append (k : BitVec 2) (off : Offset) :
    (k ++ off : BitVec 12).extractLsb' 10 2 = k := by
  apply BitVec.eq_of_getLsbD_eq
  intro i hi
  simp [selector_bit, hi]

@[simp] theorem offset_of_append (k : BitVec 2) (off : Offset) :
    (k ++ off : BitVec 12).extractLsb' 0 10 = off := by
  apply BitVec.eq_of_getLsbD_eq
  intro i hi
  simp [selector_bit, hi]

@[simp] theorem kindOf_append (k : OpKind) (off : Offset) : kindOf (k.code ++ off) = k := by
  simp only [kindOf, kind_of_append]
  cases k <;> rfl

@[simp] theorem offsetOf_append (k : BitVec 2) (off : Offset) : offsetOf (k ++ off) = off := by
  simp [offsetOf]

/-- The kind field of a selector is its kind's code (R80). -/
theorem code_kindOf (sel : BitVec 12) : (kindOf sel).code = sel.extractLsb' 10 2 := by
  have all : ∀ x : BitVec 2,
      (if x = 0#2 then OpKind.rd else if x = 1#2 then .wr else if x = 2#2 then .quiesce else .reset).code = x := by
    decide
  exact all _

/-- A selector is its kind followed by its offset (R80). -/
theorem selector_eq (sel : BitVec 12) : ((kindOf sel).code ++ offsetOf sel : BitVec 12) = sel := by
  rw [code_kindOf]
  apply BitVec.eq_of_getLsbD_eq
  intro i hi
  rw [selector_bit]
  by_cases hlt : i < 10
  · simp [offsetOf, hlt]
  · have h2 : i - 10 < 2 := by omega
    have h3 : 10 + (i - 10) = i := by omega
    simp [hlt, h2, h3]

/-! ## Registers and offsets -/

/-- A register stands at its own offset, alone (R21, R64). -/
theorem registerAt_offset (r : RegName) : registerAt r.offset = some r := by
  cases r <;> rfl

theorem registerAt_eq_some {off : Offset} {r : RegName} (h : registerAt off = some r) : off = r.offset := by
  have := List.find?_some h
  simpa using Eq.symm (by simpa using this)

theorem mem_all (r : RegName) : r ∈ RegName.all := by cases r <;> decide

/-- The offsets that hold no register are the well-formed unmapped ones (R64, R118). -/
theorem registerAt_eq_none {off : Offset} : registerAt off = none ↔ isUnmapped off = true := by
  simp [registerAt, isUnmapped, registerOffsets]

/-- The way back from a read at a register's offset (R83). -/
theorem encode_readOf (r : RegName) : encode (readOf r) = ⟨OpKind.rd.code ++ r.offset, 0⟩ := by
  cases r <;> rfl

theorem encode_writeOf (v : Word) (r : RegName) : encode (writeOf v r) = ⟨OpKind.wr.code ++ r.offset, v⟩ := by
  cases r <;> rfl

theorem encode_decodeRead (off : Offset) : encode (decodeRead off) = ⟨OpKind.rd.code ++ off, 0⟩ := by
  unfold decodeRead
  split
  · next r h => rw [encode_readOf, registerAt_eq_some h]
  · rfl

theorem encode_decodeWrite (off : Offset) (v : Word) :
    encode (decodeWrite off v) = ⟨OpKind.wr.code ++ off, v⟩ := by
  unfold decodeWrite
  split
  · next r h => rw [encode_writeOf, registerAt_eq_some h]
  · rfl

/-- A selector made of kind RD and an offset is a read at that offset; of kind WR, a write (R80). -/
theorem decode_rd (off : Offset) (v : Word) : decode ⟨OpKind.rd.code ++ off, v⟩ = decodeRead off := by
  have h := kindOf_append .rd off
  simp [decode, h]

theorem decode_wr (off : Offset) (v : Word) : decode ⟨OpKind.wr.code ++ off, v⟩ = decodeWrite off v := by
  have h := kindOf_append .wr off
  simp [decode, h]

/-- A write of a register, encoded, decodes to itself (R81, R83). -/
theorem decode_encode_writeOf (v : Word) (r : RegName) : decode (encode (writeOf v r)) = writeOf v r := by
  rw [encode_writeOf, decode_wr, decodeWrite, registerAt_offset]

theorem decode_encode_readOf (r : RegName) : decode (encode (readOf r)) = readOf r := by
  rw [encode_readOf, decode_rd, decodeRead, registerAt_offset]

/-- A read or write at any offset of the window is a well-formed operation (R64, R81). -/
theorem decodeRead_wf (off : Offset) : (decodeRead off).wf = true := by
  unfold decodeRead
  split
  · next r _ => cases r <;> rfl
  · next h => exact registerAt_eq_none.mp h

theorem decodeWrite_wf (off : Offset) (v : Word) : (decodeWrite off v).wf = true := by
  unfold decodeWrite
  split
  · next r _ => cases r <;> rfl
  · next h => exact registerAt_eq_none.mp h

/-- A read or write at an offset is a register access, neither QUIESCE nor RESET (R80). -/
theorem decodeRead_isAccess (off : Offset) : decodeRead off ≠ .quiesce ∧ decodeRead off ≠ .reset := by
  unfold decodeRead
  split
  · next r _ => cases r <;> simp [readOf]
  · simp

theorem decodeWrite_isAccess (off : Offset) (v : Word) : decodeWrite off v ≠ .quiesce ∧ decodeWrite off v ≠ .reset := by
  unfold decodeWrite
  split
  · next r _ => cases r <;> simp [writeOf]
  · simp

/-- An offset read as a number comes back as itself. -/
@[simp] theorem ofNat_offset (off : Offset) : BitVec.ofNat 10 off.toNat = off := by simp

/-- An operation laid out as a bus access is a well-formed one (R61, R80). -/
theorem accessOf_wf (o : OpWord) : (accessOf o).wf = true := by
  have h : (offsetOf o.selector).toNat < 1024 := (offsetOf o.selector).isLt
  unfold Access.wf accessOf
  cases kindOf o.selector <;> simp [h]

/-- A well-formed access is an operation of the block: routing never refuses it (R61). -/
theorem route_of_wf (a : Access) (h : a.wf = true) : ∃ o, route a = .ok o := by
  obtain ⟨k, w, off, v⟩ := a
  cases k <;> simp [Access.wf] at h <;> simp [route, Config.deviceSize, h]
  · rw [if_neg (by omega)]; exact ⟨_, rfl⟩
  · rw [if_neg (by omega)]; exact ⟨_, rfl⟩

/-- What the bus carries decodes to what the operation decodes to (R80, R81). -/
theorem decodeAccess_accessOf (o : OpWord) : decodeAccess (accessOf o) = .ok (decode o) := by
  have h : ¬ 1024 ≤ (offsetOf o.selector).toNat := by
    have := (offsetOf o.selector).isLt
    omega
  unfold decodeAccess route accessOf decode
  cases hk : kindOf o.selector <;> simp [Config.deviceSize, h]

end Sys2Proof
end

