-- ==== Sys2Proof/Laws/PerInstr.lean ====
section
/-! SUPPORT. For every operation: its encoding is matched by the opcode-table row of its name, as R81 picks rows. -/

namespace Sys2Proof.Laws.MatchesRow

/-- A well-formed operation's selector is given, by the rule of R81, to the row that carries its mnemonic. -/
def Statement (i : Instr) : Prop :=
  i.wf = true → (rowOf (encode i).selector).map (·.mnemonic) = some i.mnemonic

/-- At an offset that holds no register a read goes to the default row of reads, a write to that of writes (R81). -/
theorem unmapped_row : ∀ off : Offset, isUnmapped off = true →
    (rowOf (OpKind.rd.code ++ off)).map (·.mnemonic) = some "RD_Unmapped" ∧
    (rowOf (OpKind.wr.code ++ off)).map (·.mnemonic) = some "WR_Unmapped" := by
  decide +kernel

theorem rdControl1 : Statement .rdControl1 := fun _ => rfl

theorem wrControl1 (v : Word) : Statement (.wrControl1 v) := fun _ =>
  show (rowOf 0x400).map (·.mnemonic) = some "WR_Control1" from by decide

theorem rdControl2 : Statement .rdControl2 := fun _ => rfl

theorem wrControl2 (v : Word) : Statement (.wrControl2 v) := fun _ =>
  show (rowOf 0x404).map (·.mnemonic) = some "WR_Control2" from by decide

theorem rdOwnAddress1 : Statement .rdOwnAddress1 := fun _ => rfl

theorem wrOwnAddress1 (v : Word) : Statement (.wrOwnAddress1 v) := fun _ =>
  show (rowOf 0x408).map (·.mnemonic) = some "WR_OwnAddress1" from by decide

theorem rdOwnAddress2 : Statement .rdOwnAddress2 := fun _ => rfl

theorem wrOwnAddress2 (v : Word) : Statement (.wrOwnAddress2 v) := fun _ =>
  show (rowOf 0x40C).map (·.mnemonic) = some "WR_OwnAddress2" from by decide

theorem rdData : Statement .rdData := fun _ => rfl

theorem wrData (v : Word) : Statement (.wrData v) := fun _ =>
  show (rowOf 0x410).map (·.mnemonic) = some "WR_Data" from by decide

theorem rdStatus1 : Statement .rdStatus1 := fun _ => rfl

theorem wrStatus1 (v : Word) : Statement (.wrStatus1 v) := fun _ =>
  show (rowOf 0x414).map (·.mnemonic) = some "WR_Status1" from by decide

theorem rdStatus2 : Statement .rdStatus2 := fun _ => rfl

theorem wrStatus2 (v : Word) : Statement (.wrStatus2 v) := fun _ =>
  show (rowOf 0x418).map (·.mnemonic) = some "WR_Status2" from by decide

theorem rdClockControl : Statement .rdClockControl := fun _ => rfl

theorem wrClockControl (v : Word) : Statement (.wrClockControl v) := fun _ =>
  show (rowOf 0x41C).map (·.mnemonic) = some "WR_ClockControl" from by decide

theorem rdRiseTime : Statement .rdRiseTime := fun _ => rfl

theorem wrRiseTime (v : Word) : Statement (.wrRiseTime v) := fun _ =>
  show (rowOf 0x420).map (·.mnemonic) = some "WR_RiseTime" from by decide

theorem rdNoiseFilter : Statement .rdNoiseFilter := fun _ => rfl

theorem wrNoiseFilter (v : Word) : Statement (.wrNoiseFilter v) := fun _ =>
  show (rowOf 0x424).map (·.mnemonic) = some "WR_NoiseFilter" from by decide

theorem rdUnmapped (off : Offset) : Statement (.rdUnmapped off) := fun h => (unmapped_row off h).1

theorem wrUnmapped (off : Offset) (v : Word) : Statement (.wrUnmapped off v) := fun h => (unmapped_row off h).2

theorem quiesce : Statement .quiesce := fun _ => rfl

theorem reset : Statement .reset := fun _ => rfl

end Sys2Proof.Laws.MatchesRow
end

