-- ==== Sys2Proof/Laws/Step.lean ====
section
/-! SUPPORT. What one step can do, said once: nothing, one operation, or a narrow access as the bus layer translates it. -/

namespace Sys2Proof.Machine

/-! ## The window -/

/-- An offset of the window stands at its own address (R62). -/
theorem offsetAt_addressAt (p : Params) {off : Nat} (h : off < Config.deviceSize) :
    offsetAt p (addressAt p off) = some off := by
  simp [offsetAt, addressAt, h]

/-- An address below or beyond the window has no offset in it (R61, R62). -/
theorem offsetAt_outside {p : Params} {addr : Nat} (h : addr < p.base ∨ p.base + Config.deviceSize ≤ addr) :
    offsetAt p addr = none := by
  unfold offsetAt
  rw [if_neg]
  omega

/-! ## Narrow accesses -/

@[simp] theorem runBus_done (k : OpKind) (before : Option Word) (r : Word) (s : State) :
    runBus k before (.done r) s = .next (finishNarrow k before r s) := rfl

@[simp] theorem runBus_rd (k : OpKind) (before : Option Word) (off : Offset) (next : Word → BusProgram) (s : State) :
    runBus k before (.rd off next) s =
      andThen (exec (decodeRead off) s) fun u => runBus k before (next (u.readData.getD 0)) u := rfl

@[simp] theorem runBus_wr (k : OpKind) (before : Option Word) (off : Offset) (v : Word) (next : BusProgram) (s : State) :
    runBus k before (.wr off v next) s = andThen (exec (decodeWrite off v) s) fun u => runBus k before next u := rfl

/-- What a translation keeps: whatever every register access keeps and the host's view of the last read plays no part in,
a whole narrow access keeps. -/
theorem runBus_keeps {P : State → Prop}
    (access : ∀ i s t, i ≠ .quiesce → i ≠ .reset → P s → exec i s = .next t → P t)
    (view : ∀ (s : State) (r : Option Word), P s → P { s with readData := r })
    {k : OpKind} {before : Option Word} (p : BusProgram) :
    ∀ {s t : State}, P s → runBus k before p s = .next t → P t := by
  induction p with
  | done r => intro s t hs h; cases h; exact view s _ hs
  | rd off next ih =>
    intro s t hs h
    obtain ⟨u, hu, ht⟩ := andThen_eq_next h
    have ha := decodeRead_isAccess off
    exact ih _ (access _ s u ha.1 ha.2 hs hu) ht
  | wr off v next ih =>
    intro s t hs h
    obtain ⟨u, hu, ht⟩ := andThen_eq_next h
    have ha := decodeWrite_isAccess off v
    exact ih (access _ s u ha.1 ha.2 hs hu) ht

/-- A translation that goes on is a sequence of register accesses, and the end of the access after them. -/
theorem runBus_operations {k : OpKind} {before : Option Word} (p : BusProgram) :
    ∀ {s t : State}, runBus k before p s = .next t →
      ∃ ops u r, (∀ i ∈ ops, i.wf = true ∧ i ≠ .quiesce ∧ i ≠ .reset) ∧ runOps ops s = .next u ∧
        t = finishNarrow k before r u := by
  induction p with
  | done r => intro s t h; cases h; exact ⟨[], s, r, by simp, rfl, rfl⟩
  | rd off next ih =>
    intro s t h
    obtain ⟨u, hu, ht⟩ := andThen_eq_next h
    obtain ⟨ops, w, r, hops, hrun, hw⟩ := ih _ ht
    refine ⟨decodeRead off :: ops, w, r, ?_, by simp [runOps, hu, hrun], hw⟩
    simpa [decodeRead_wf, decodeRead_isAccess] using hops
  | wr off v next ih =>
    intro s t h
    obtain ⟨u, hu, ht⟩ := andThen_eq_next h
    obtain ⟨ops, w, r, hops, hrun, hw⟩ := ih ht
    refine ⟨decodeWrite off v :: ops, w, r, ?_, by simp [runOps, hu, hrun], hw⟩
    simpa [decodeWrite_wf, decodeWrite_isAccess] using hops

/-! ## Steps -/

/-- With nothing issued a step changes nothing (log 1). -/
theorem step_idle {s : State} (h : s.requests = []) : step s = .next s := by
  simp [step, h]

/-- The access at the head, when it is an operation, is run whole (R65, R81). -/
theorem step_operation {s : State} {a : Access} {rest : List Access} {i : Instr}
    (h : s.requests = a :: rest) (hd : decodeAccess a = .ok i) : step s = exec i { s with requests := rest } := by
  simp [step, h, hd]

/-- The access at the head, when it is no operation, goes to the bus layer (R61). -/
theorem step_unrouted {s : State} {a : Access} {rest : List Access} {e : RouteError}
    (h : s.requests = a :: rest) (hd : decodeAccess a = .error e) :
    step s = unrouted e a { s with requests := rest } := by
  simp [step, h, hd]

/-- The three ways a step goes on. -/
theorem step_cases {s t : State} (h : step s = .next t) :
    (s.requests = [] ∧ t = s) ∨
    (∃ a rest i, s.requests = a :: rest ∧ decodeAccess a = .ok i ∧ exec i { s with requests := rest } = .next t) ∨
    (∃ a rest, s.requests = a :: rest ∧ decodeAccess a = .error .narrow ∧ s.params.subwordPolicy = .translate ∧
      runBus a.kind s.readData (Config.busLayer a) { s with requests := rest } = .next t) := by
  rcases hr : s.requests with _ | ⟨a, rest⟩
  · rw [step_idle hr] at h
    exact .inl ⟨rfl, by simpa using h.symm⟩
  · right
    rcases hd : decodeAccess a with e | i
    · right
      rw [step_unrouted hr hd] at h
      cases e with
      | outside => simp [unrouted] at h
      | narrow =>
        cases hp : s.params.subwordPolicy with
        | refuse => simp [unrouted, hp] at h
        | translate => exact ⟨a, rest, rfl, hd, rfl, by simpa [unrouted, hp] using h⟩
    · left
      rw [step_operation hr hd] at h
      exact ⟨a, rest, i, rfl, hd, h⟩

/-- Soundness is about three fields and the registry; what is issued and what was last read play no part in it (R44). -/
theorem sound_withRequests (s : State) (rs : List Access) : State.Sound { s with requests := rs } ↔ s.Sound :=
  Iff.rfl

theorem sound_withReadData (s : State) (r : Option Word) : State.Sound { s with readData := r } ↔ s.Sound :=
  Iff.rfl

end Sys2Proof.Machine
end

