-- ==== Sys2Proof/Machine/Script.lean ====
section
/-! DEFINITION. The spec's operation scripts (spec/30_encoding.md R87) and pseudo-operations (R88): notation for the operations above, and how a script is handed to the machine. -/

namespace Sys2Proof.Machine

/-- `START [c]`: `WR Control1, c ∨ 0x100`, with the stored bits c restated (R88). -/
def opStart (c : Word := 0x001) : Instr := .wrControl1 (c ||| 0x100)

/-- `STOP [c]` (R88). -/
def opStop (c : Word := 0x001) : Instr := .wrControl1 (c ||| 0x200)

/-- `SWRST` (R88). -/
def opSwrst : Instr := .wrControl1 0x8000

/-- `ENABLE [c]` (R88). -/
def opEnable (c : Word := 0x001) : Instr := .wrControl1 (c ||| 0x001)

/-- `DISABLE` (R88). -/
def opDisable : Instr := .wrControl1 0x000

/-- `ADDR_W a`: `WR Data, (a << 1) ∨ 0` (R88). -/
def opAddrW (a : SlaveAddr) : Instr := .wrData (a.setWidth 32 <<< 1)

/-- `ADDR_R a`: `WR Data, (a << 1) ∨ 1` (R88). -/
def opAddrR (a : SlaveAddr) : Instr := .wrData (a.setWidth 32 <<< 1 ||| 1)

/-- `SEND b` (R88). -/
def opSend (b : Byte) : Instr := .wrData (b.setWidth 32)

/-- `RECV -> b`: a read of Data (R88). -/
def opRecv : Instr := .rdData

/-- `CLEAR_AF`: `WR Status1, 0x000` (R88). -/
def opClearAf : Instr := .wrStatus1 0x000

/-- `CLEAR_ADDR`: a read of Status2, its result discarded (R88). -/
def opClearAddr : Instr := .rdStatus2

/-- One line of a script (R87): `WR <name>, v`; `RD <name> -> v`; `WR @off, v`; `RD @off -> v`; `QUIESCE`; `RESET`;
and the annotation `slave <addr>: Read -> bytes`, the answer the next `Read` call gets. -/
inductive ScriptLine where
  | wr (r : RegName) (v : Word)
  | rd (r : RegName) (expected : Word)
  | wrAt (off : Offset) (v : Word)
  | rdAt (off : Offset) (expected : Word)
  | quiesce
  | reset
  | answer (addr : SlaveAddr) (bytes : List Byte)
  deriving DecidableEq, Repr

/-- The access a script line stands for; an annotation is none (R87). -/
def accessOfLine : ScriptLine → Option Access
  | .wr r v => some ⟨.wr, .word, r.offset.toNat, v⟩
  | .rd r _ => some ⟨.rd, .word, r.offset.toNat, 0⟩
  | .wrAt off v => some ⟨.wr, .word, off.toNat, v⟩
  | .rdAt off _ => some ⟨.rd, .word, off.toNat, 0⟩
  | .quiesce => some ⟨.quiesce, .word, 0, 0⟩
  | .reset => some ⟨.reset, .word, 0, 0⟩
  | .answer _ _ => none

/-- The answer an annotation gives (R87); the other lines give none. -/
def answerOfLine : ScriptLine → Option (List Byte)
  | .answer _ bytes => some bytes
  | .wr _ _ => none
  | .rd _ _ => none
  | .wrAt _ _ => none
  | .rdAt _ _ => none
  | .quiesce => none
  | .reset => none

/-- Hand a script to the machine: its accesses are issued in order, its answers are what the coming `Read` calls get
(log 1, log 6, log 40). -/
def loadScript (ls : List ScriptLine) (s : State) : State :=
  { s with
    requests := s.requests ++ ls.filterMap accessOfLine
    answers := s.answers ++ ls.filterMap answerOfLine }

/-- The value a line says its read returns; a line that is no read says nothing. -/
def expectedOfLine : ScriptLine → Option Word
  | .rd _ v => some v
  | .rdAt _ v => some v
  | .wr _ _ => none
  | .wrAt _ _ => none
  | .quiesce => none
  | .reset => none
  | .answer _ _ => none

/-- Run the accesses of a loaded script one step each; true when no step stops and every read returns what its line
says. -/
def scriptHolds : List ScriptLine → State → Bool
  | [], _ => true
  | l :: ls, s =>
    match accessOfLine l with
    | none => scriptHolds ls s
    | some _ =>
      match step s with
      | .next s' =>
        (match expectedOfLine l with
          | some v => s'.readData == some v
          | none => true) && scriptHolds ls s'
      | .fault _ => false
      | .refused _ => false

end Sys2Proof.Machine
end

