-- ==== Sys2Proof/Tests/Slice0.lean ====
section
/-! SUPPORT. The model's own tests: ill-formed terms are refused, every operation's selector written out from the spec's table decodes to it, one step of each operation against spec/95_test_vectors.md, and for each obligation a state and operands that meet its hypotheses. -/

namespace Sys2Proof.Tests

open Sys2Proof Sys2Proof.Machine

/-! ## Small states, as the vectors of spec/95_test_vectors.md start from -/

/-- `SLAVES = {0x08, 0x50}`, the parameters at their defaults (95_test_vectors.md, conventions); READ_COUNT 2. -/
def vectorParams : Params where
  base := 0x1000
  slaves := [0x08, 0x50]
  readCount := 2
  maskOwnAddress1 := 0xFFFFFFFF
  maskOwnAddress2 := 0xFFFFFFFF
  maskClockControl := 0xFFFFFFFF
  maskRiseTime := 0xFFFFFFFF
  maskNoiseFilter := 0xFFFFFFFF
  afReadClears := true
  dmaRxPulseRequiresDmaEn := false
  subwordPolicy := .refuse

/-- Power-on with those parameters. -/
def base : State := { State.reset with params := vectorParams }

/-- After START (S7 step 1), the deferred recompute already run. -/
def addressing : State := { base with txnState := .awaitingAddress, startBit := true, masterSlave := true, periEn := true }

/-- In AwaitingData with one byte collected (S7 step 3). -/
def sending : State :=
  { base with
    txnState := .awaitingData, sel := some 0x08, outBuf := [0xAB], addressSentOrMatched := true
    transmitterReceiver := true, masterSlave := true, dataRegisterEmpty := true, periEn := true }

/-- In ReceivingData with two bytes queued (R148's example). -/
def receiving : State :=
  { base with
    txnState := .receivingData, sel := some 0x08, inQ := [0x11, 0x22], addressSentOrMatched := true
    masterSlave := true, byteTransferFinished := true, periEn := true, answers := [[0x33]] }

/-- A failed address with the error interrupt armed and high (R150's example). -/
def nacked : State :=
  { base with
    acknowledgeFailed := true, errorInterruptEnable := true
    lines := { Lines.low with errorInterrupt := true } }

/-- The same with a bus-layer translation supplied (R61). -/
def translating : State := { base with params := { vectorParams with subwordPolicy := .translate } }

/-- The operation goes on, to a state that passes the check. -/
def after (i : Instr) (s : State) (check : State → Bool) : Bool :=
  match exec i s with
  | .next t => check t
  | .fault _ => false
  | .refused _ => false

theorem exists_of_after {i : Instr} {s : State} {check : State → Bool} (h : after i s check = true) :
    ∃ t, exec i s = .next t ∧ check t = true := by
  unfold after at h
  split at h
  · exact ⟨_, by assumption, h⟩
  · cases h
  · cases h

/-! ## Well-formedness refuses -/

/-- 0x010 is Data: no unmapped access (R118). -/
theorem test_wf_rdUnmapped_mapped : Instr.wf (.rdUnmapped 0x010) = false := by decide

/-- 0x000 is Control1: no unmapped access (R119). -/
theorem test_wf_wrUnmapped_mapped : Instr.wf (.wrUnmapped 0x000 0x100) = false := by decide

/-- 0x024 is the last register, 0x028 is none (R21). -/
theorem test_wf_last_register : Instr.wf (.rdUnmapped 0x024) = false ∧ Instr.wf (.rdUnmapped 0x028) = true := by decide

/-- A 16-bit access is no operation of the block (R61). -/
theorem test_wf_narrow : Access.wf ⟨.rd, .half, 0x010, 0⟩ = false ∧ Access.wf ⟨.wr, .byte, 0x010, 0⟩ = false := by decide

/-- The window ends at 0x3FF (R61). -/
theorem test_wf_outside :
    Access.wf ⟨.wr, .word, 0x400, 0⟩ = false ∧ Access.wf ⟨.rd, .word, 0x400, 0⟩ = false ∧
    Access.wf ⟨.rd, .word, 0x3FF, 0⟩ = true := by decide

/-! ## The window and the bus layer (R61, R62) -/

/-- BASE 0x1000: 0x1010 is Data, 0x13FF the last byte, 0x0FFF and 0x1400 are not the block's. -/
theorem test_offsetAt :
    offsetAt vectorParams 0x1010 = some 0x010 ∧ offsetAt vectorParams 0x13FF = some 0x3FF ∧
    offsetAt vectorParams 0x0FFF = none ∧ offsetAt vectorParams 0x1400 = none := by decide

/-- A bus layer that merges a byte write into a register, read first: bits 7:0 of OwnAddress1 change, no other, and
what the host last read stays (R61, log 9). -/
theorem test_runBus_merges :
    runBus .wr (some 5) (.rd 0x008 fun old => .wr 0x008 ((old &&& 0xFFFFFF00) ||| 0x52) (.done 0))
        { base with ownAddress1 := 0x4011, readData := some 5 }
      = .next { base with ownAddress1 := 0x4052, readData := some 5 } := rfl

/-- A bus layer that places the upper half of a register as a narrow read's result (R61, R63, log 9). -/
theorem test_runBus_places :
    runBus .rd none (.rd 0x01C fun v => .done (v >>> 16)) { base with clockControl := 0xABCD1234 }
      = .next { base with clockControl := 0xABCD1234, readData := some 0xABCD } := rfl

/-! ## Decoding: the selectors of spec/30_encoding.md R83, kind then offset, bit by bit -/

theorem test_decode_rdControl1 : decode ⟨0b000000000000#12, 7⟩ = .rdControl1 := by decide
theorem test_decode_wrControl1 : decode ⟨0b010000000000#12, 0x101⟩ = .wrControl1 0x101 := by decide
theorem test_decode_rdControl2 : decode ⟨0b000000000100#12, 0⟩ = .rdControl2 := by decide
theorem test_decode_wrControl2 : decode ⟨0b010000000100#12, 0x700⟩ = .wrControl2 0x700 := by decide
theorem test_decode_rdOwnAddress1 : decode ⟨0b000000001000#12, 0⟩ = .rdOwnAddress1 := by decide
theorem test_decode_wrOwnAddress1 : decode ⟨0b010000001000#12, 0x4052⟩ = .wrOwnAddress1 0x4052 := by decide
theorem test_decode_rdOwnAddress2 : decode ⟨0b000000001100#12, 0⟩ = .rdOwnAddress2 := by decide
theorem test_decode_wrOwnAddress2 : decode ⟨0b010000001100#12, 1⟩ = .wrOwnAddress2 1 := by decide
theorem test_decode_rdData : decode ⟨0b000000010000#12, 0⟩ = .rdData := by decide
theorem test_decode_wrData : decode ⟨0b010000010000#12, 0x10⟩ = .wrData 0x10 := by decide
theorem test_decode_rdStatus1 : decode ⟨0b000000010100#12, 0⟩ = .rdStatus1 := by decide
theorem test_decode_wrStatus1 : decode ⟨0b010000010100#12, 0⟩ = .wrStatus1 0 := by decide
theorem test_decode_rdStatus2 : decode ⟨0b000000011000#12, 0⟩ = .rdStatus2 := by decide
theorem test_decode_wrStatus2 : decode ⟨0b010000011000#12, 5⟩ = .wrStatus2 5 := by decide
theorem test_decode_rdClockControl : decode ⟨0b000000011100#12, 0⟩ = .rdClockControl := by decide
theorem test_decode_wrClockControl : decode ⟨0b010000011100#12, 0xC050⟩ = .wrClockControl 0xC050 := by decide
theorem test_decode_rdRiseTime : decode ⟨0b000000100000#12, 0⟩ = .rdRiseTime := by decide
theorem test_decode_wrRiseTime : decode ⟨0b010000100000#12, 0x11⟩ = .wrRiseTime 0x11 := by decide
theorem test_decode_rdNoiseFilter : decode ⟨0b000000100100#12, 0⟩ = .rdNoiseFilter := by decide
theorem test_decode_wrNoiseFilter : decode ⟨0b010000100100#12, 0x1F⟩ = .wrNoiseFilter 0x1F := by decide
theorem test_decode_rdUnmapped : decode ⟨0b000000010010#12, 0⟩ = .rdUnmapped 0x012 := by decide
theorem test_decode_wrUnmapped : decode ⟨0b011111111100#12, 9⟩ = .wrUnmapped 0x3FC 9 := by decide
theorem test_decode_quiesce : decode ⟨0b100000000000#12, 0⟩ = .quiesce ∧ decode ⟨0b101111111111#12, 1⟩ = .quiesce := by decide
theorem test_decode_reset : decode ⟨0b110000000000#12, 0⟩ = .reset ∧ decode ⟨0b110000010000#12, 1⟩ = .reset := by decide

/-- A table word with data in its upper bits (log 2), and a word longer than any operation. -/
theorem test_decodeTableWord :
    decodeTableWord 44 0x00000101400 = some (.wrControl1 0x101) ∧ decodeTableWord 12 0x410 = some (.wrData 0) ∧
    decodeTableWord 64 0x100000000000 = none := by decide

/-- The next step after withFetchWord runs the table word's operation. -/
theorem test_withFetchWord :
    step (State.withFetchWord base 44 0x00000011420) = .next { base with riseTime := 0x11 } := rfl

/-! ## One step of each operation -/

/-- R100: two stored bits, triggers read 0 (V2, V3). -/
theorem test_rdControl1 :
    after .rdControl1 { base with acknowledgeEnable := true, periEn := true }
      (fun t => t.readData == some 0x00000401) = true := by decide

/-- S7 step 1: START from power-on. -/
theorem test_wrControl1_start :
    after (.wrControl1 0x00000101) base
      (fun t => t.txnState == .awaitingAddress && status1Value t == 0x001 && status2Value t == 0x001
        && t.pending == [.recompute]) = true := by decide

/-- S7 step 4: STOP delivers the buffer in one `Write`. -/
theorem test_wrControl1_stop :
    after (.wrControl1 0x00000201) sending
      (fun t => t.txnState == .idle && t.outBuf == [] && t.slaveLog == [.write 0x08 [0xAB]]
        && status1Value t == 0x002 && status2Value t == 0x005) = true := by decide

/-- R102 (V4): the listed bits only. -/
theorem test_rdControl2 :
    after .rdControl2 { base with freq := 0x3F, bufferInterruptEnable := true, dmaLastTransfer := true }
      (fun t => t.readData == some 0x0000143F) = true := by decide

/-- V4: three enables rise, one action; both DMA lines rise. -/
theorem test_wrControl2_all_ones :
    after (.wrControl2 0xFFFFFFFF) base
      (fun t => control2Value t == 0x00001F3F && t.pending == [.recompute]
        && t.lineLog == [(.dmaTransmit, true), (.dmaReceive, true)]) = true := by decide

/-- R220: clearing an enable lowers its line inside the write. -/
theorem test_wrControl2_disarm :
    after (.wrControl2 0x00000000) nacked
      (fun t => t.lineLog == [(.errorInterrupt, false)] && t.lines == Lines.low && t.pending == []) = true := by decide

/-- V5. -/
theorem test_rdOwnAddress1 :
    after .rdOwnAddress1 { base with ownAddress1 := 0x4052 } (fun t => t.readData == some 0x4052) = true := by decide

/-- V5, and a mask (R24). -/
theorem test_wrOwnAddress1 :
    after (.wrOwnAddress1 0x4052) base (fun t => t.ownAddress1 == 0x4052 && t.ownAddress2 == 0) = true ∧
    after (.wrOwnAddress1 0xFFFF) { base with params := { vectorParams with maskOwnAddress1 := 0x83FF } }
      (fun t => t.ownAddress1 == 0x83FF) = true := by decide

theorem test_rdOwnAddress2 :
    after .rdOwnAddress2 { base with ownAddress2 := 5 } (fun t => t.readData == some 5) = true := by decide

theorem test_wrOwnAddress2 :
    after (.wrOwnAddress2 0xFFFFFFFF) base (fun t => t.ownAddress2 == 0xFFFFFFFF && t.ownAddress1 == 0) = true := by decide

/-- R148's example: the second read is the one that refills. -/
theorem test_rdData_refill :
    after .rdData { receiving with inQ := [0x22] }
      (fun t => t.readData == some 0x22 && t.inQ == [0x33] && t.byteTransferFinished && t.pending == [.dmaRxPulse]
        && t.slaveLog == [.read 0x08 2 [0x33]]) = true := by decide

/-- R148's example: the first read makes no call. V1: an empty queue reads 0. -/
theorem test_rdData_no_call :
    after .rdData receiving (fun t => t.readData == some 0x11 && t.inQ == [0x22] && t.slaveLog == []) = true ∧
    after .rdData base (fun t => t.readData == some 0 && t.diagLog == [.emptyQueueRead]) = true := by decide

/-- S7 step 2: a write-direction address. -/
theorem test_wrData_address :
    after (.wrData 0x00000010) addressing
      (fun t => t.txnState == .awaitingData && t.sel == some 0x08 && status1Value t == 0x082
        && status2Value t == 0x005) = true := by decide

/-- V9: 0x33 is not registered. S7 step 3: a data byte. -/
theorem test_wrData_nack_and_byte :
    after (.wrData 0x00000066) addressing (fun t => t.txnState == .idle && status1Value t == 0x400) = true ∧
    after (.wrData 0xFFFFFFCD) sending
      (fun t => t.outBuf == [0xAB, 0xCD] && t.pending == [.dataWriteDone] && status1Value t == 0x082) = true := by decide

/-- V9: the read returns the flag, then clears it and lowers the line. -/
theorem test_rdStatus1 :
    after .rdStatus1 nacked
      (fun t => t.readData == some 0x00000400 && !t.acknowledgeFailed && t.lines == Lines.low) = true := by decide

/-- S1: bits 6, 2 and 1 in ReceivingData. -/
theorem test_rdStatus1_receiving :
    after .rdStatus1 receiving (fun t => t.readData == some 0x00000046) = true := by decide

/-- V8, V10: a 0 in bit 10 clears the flag, a 1 does not. -/
theorem test_wrStatus1 :
    after (.wrStatus1 0xFFFFFBFF) nacked (fun t => !t.acknowledgeFailed && !t.lines.errorInterrupt) = true ∧
    after (.wrStatus1 0xFFFFFFFF) nacked (fun t => t == nacked) = true := by decide

/-- R110: the two flags, and AddressSentOrMatched is cleared. -/
theorem test_rdStatus2 :
    after .rdStatus2 sending (fun t => t.readData == some 0x00000005 && !t.addressSentOrMatched) = true := by decide

/-- R111. -/
theorem test_wrStatus2 : after (.wrStatus2 0) sending (fun t => t == sending) = true := by decide

theorem test_rdClockControl :
    after .rdClockControl { base with clockControl := 0xC050 } (fun t => t.readData == some 0xC050) = true := by decide

theorem test_wrClockControl :
    after (.wrClockControl 0xC050) base (fun t => t.clockControl == 0xC050 && t.riseTime == 2) = true := by decide

/-- V1. -/
theorem test_rdRiseTime : after .rdRiseTime base (fun t => t.readData == some 0x00000002) = true := by decide

theorem test_wrRiseTime :
    after (.wrRiseTime 0x11) base (fun t => t.riseTime == 0x11 && t.noiseFilter == 0) = true := by decide

theorem test_rdNoiseFilter :
    after .rdNoiseFilter { base with noiseFilter := 0x1F } (fun t => t.readData == some 0x1F) = true := by decide

theorem test_wrNoiseFilter :
    after (.wrNoiseFilter 0x1F) base (fun t => t.noiseFilter == 0x1F && t.riseTime == 2) = true := by decide

/-- V7: 0x012 is not Data, no byte is dequeued. -/
theorem test_rdUnmapped :
    after (.rdUnmapped 0x012) receiving
      (fun t => t.readData == some 0 && t.inQ == [0x11, 0x22] && t.diagLog == [.unmappedAccess]) = true := by decide

/-- V7: 0x001 is not Control1, no START. -/
theorem test_wrUnmapped :
    after (.wrUnmapped 0x001 0x100) base
      (fun t => t == { base with diagLog := [.unmappedAccess] }) = true := by decide

/-- R191's example: after START with EventInterruptEnable, QUIESCE raises EventInterrupt. -/
theorem test_quiesce :
    after .quiesce { addressing with eventInterruptEnable := true, pending := [.recompute] }
      (fun t => t.pending == [] && t.lineLog == [(.eventInterrupt, true)]) = true := by decide

/-- S7: a data write's action sets both flags. R182: a pulse on a high line falls and rises. -/
theorem test_quiesce_actions :
    after .quiesce { sending with pending := [.dataWriteDone] } (fun t => status1Value t == 0x086) = true ∧
    after .quiesce { base with pending := [.dmaRxPulse], lines := { Lines.low with dmaReceive := true } }
      (fun t => t.lineLog == [(.dmaReceive, false), (.dmaReceive, true)]) = true := by decide

/-- V6, R240: RiseTime back to 2; nothing pending is dropped, nothing is flushed. -/
theorem test_reset :
    after .reset { sending with riseTime := 0x11, pending := [.dataWriteDone] }
      (fun t => t == { base with pending := [.dataWriteDone] }) = true := by decide

/-- A START that must flush with no slave selected stops (log 12). -/
theorem test_fault_no_slave :
    exec (.wrControl1 0x101) { sending with sel := none } = .fault .noSelectedSlave ∧
    exec .rdData { receiving with sel := none, inQ := [] } = .fault .noSelectedSlave := ⟨rfl, rfl⟩

/-! ## Witnesses: for each obligation with hypotheses, states and operands that meet them, clause by clause

Boundary values where a clause has a range: offsets 0x3FF and 0x400, addresses 0x00 and 0x7F, a queue of one and of two
bytes, an empty and a one-byte buffer. -/

theorem witness_StepRunsTheIssuedOperation :
    (issue ⟨.wr, .word, 0x3FF, 9⟩ base).requests = [⟨.wr, .word, 0x3FF, 9⟩] ∧
    decodeAccess ⟨.wr, .word, 0x3FF, 9⟩ = .ok (.wrUnmapped 0x3FF 9) ∧
    (issue (accessOf ⟨0x410, 0x10⟩) base).requests = [accessOf ⟨0x410, 0x10⟩] ∧ base.requests = [] :=
  ⟨rfl, rfl, rfl, rfl⟩

theorem witness_OnlyWordAccessesInsideTheWindowAreOperations :
    (Access.wf ⟨.rd, .word, 0x3FF, 0⟩ = true ∧ Access.wf ⟨.quiesce, .byte, 0x400, 0⟩ = true) ∧
    (issue ⟨.rd, .byte, 0x400, 0⟩ base).requests = [⟨.rd, .byte, 0x400, 0⟩] ∧
    (issue ⟨.wr, .half, 0x3FF, 0⟩ base).requests = [⟨.wr, .half, 0x3FF, 0⟩] ∧
    base.params.subwordPolicy = .refuse ∧
    (issue ⟨.wr, .half, 0x3FF, 0⟩ translating).requests = [⟨.wr, .half, 0x3FF, 0⟩] ∧
    translating.params.subwordPolicy = .translate ∧ State.Sound (issue ⟨.wr, .half, 0x3FF, 0⟩ translating) ∧
    (0xFFF < base.params.base ∧ base.params.base + 0x400 ≤ 0x1400) :=
  ⟨by decide, rfl, rfl, rfl, rfl, rfl, by decide, by decide⟩

theorem witness_DecodeInvertsEncode :
    Instr.wf (.wrUnmapped 0x3FF 0xFFFFFFFF) = true ∧ Instr.wf (.rdUnmapped 0x001) = true ∧
    Instr.wf (.wrData 0xFFFFFFFF) = true := by decide

theorem witness_EncodeInvertsDecode : kindOf 0x000 = .rd ∧ kindOf 0x3FF = .rd ∧ kindOf 0x400 = .wr ∧ kindOf 0x7FF = .wr := by
  decide

theorem witness_Status1WriteClearsAcknowledgeFailedOnly :
    (0xFFFFFBFF : Word)[10] = false ∧ nacked.acknowledgeFailed = true ∧ (0x400 : Word)[10] = true ∧
    base.acknowledgeFailed = false := by decide

theorem witness_Control2WriteStoresItsSixFields : ∃ t, exec (.wrControl2 0xFFFFFFFF) base = .next t := ⟨_, rfl⟩

theorem witness_ArmingAnEnableIsDeferred :
    ∃ t, exec (.wrControl2 0x700) nacked = .next t ∧
      (nacked.errorInterruptEnable = true → (0x700 : Word)[8] = true) ∧
      (nacked.eventInterruptEnable = true → (0x700 : Word)[9] = true) ∧
      (nacked.bufferInterruptEnable = true → (0x700 : Word)[10] = true) := ⟨_, rfl, by decide⟩

/-- The clause on Pending, where an enable rises beside one that falls, and where one falls alone (R103, D15). -/
theorem witness_ArmingAnEnableIsDeferred_falls :
    nacked.errorInterruptEnable = true ∧ nacked.eventInterruptEnable = false ∧
    (∃ t, exec (.wrControl2 0x200) nacked = .next t ∧ t.pending = nacked.pending ++ [.recompute]) ∧
    (∃ t, exec (.wrControl2 0x000) nacked = .next t ∧ t.pending = nacked.pending) :=
  ⟨rfl, rfl, ⟨_, rfl, rfl⟩, ⟨_, rfl, rfl⟩⟩

theorem witness_DisarmingAnEnableActsBeforeTheWriteReturns :
    (∃ t, exec (.wrControl2 0x600) nacked = .next t) ∧
    nacked.errorInterruptEnable = true ∧ (0x600 : Word)[8] = false ∧
    (∃ t, exec (.wrControl2 0x500) { base with eventInterruptEnable := true } = .next t) ∧
    ({ base with eventInterruptEnable := true } : State).eventInterruptEnable = true ∧ (0x500 : Word)[9] = false ∧
    (∃ t, exec (.wrControl2 0x300) { base with bufferInterruptEnable := true } = .next t) ∧
    ({ base with bufferInterruptEnable := true } : State).bufferInterruptEnable = true ∧ (0x300 : Word)[10] = false :=
  ⟨⟨_, rfl⟩, rfl, rfl, ⟨_, rfl⟩, rfl, rfl, ⟨_, rfl⟩, rfl, rfl⟩

/-- DmaEnable rising with and without enables that change, falling with an enable that falls, unchanged. -/
theorem witness_DmaEnableDrivesBothRequestLines :
    (base.dmaEnable = false ∧ (0xFFFFFFFF : Word)[11] = true ∧ (0x800 : Word)[11] = true) ∧
    ((base.errorInterruptEnable = true → (0x800 : Word)[8] = true) ∧
      (base.eventInterruptEnable = true → (0x800 : Word)[9] = true) ∧
      (base.bufferInterruptEnable = true → (0x800 : Word)[10] = true)) ∧
    (({ nacked with dmaEnable := true } : State).dmaEnable = true ∧ (0x000 : Word)[11] = false) ∧
    (nacked.dmaEnable = (0x000 : Word)[11] ∧ ({ nacked with dmaEnable := true } : State).dmaEnable = (0x800 : Word)[11]) := by
  decide

/-- A fall by a write of Control2, one by a reset, and one by a receive pulse. -/
theorem witness_DmaLinesFallOnlyByDisableResetOrPulse :
    (({ base with dmaEnable := true } : State).dmaEnable = true ∧ (0x700 : Word)[11] = false) ∧
    (∃ t, exec (.wrControl2 0) { base with dmaEnable := true, lines := { Lines.low with dmaTransmit := true } } = .next t ∧
      (t.lineLog == base.lineLog ++ [(.dmaTransmit, false)]) = true) ∧
    (∃ t, exec .reset { base with lines := { Lines.low with dmaReceive := true } } = .next t ∧
      (t.lineLog == base.lineLog ++ [(.dmaReceive, false)]) = true) ∧
    (∃ t, exec .quiesce { base with pending := [.dmaRxPulse], lines := { Lines.low with dmaReceive := true } } = .next t ∧
      (t.lineLog == base.lineLog ++ [(.dmaReceive, false), (.dmaReceive, true)]) = true) :=
  ⟨by decide, ⟨_, rfl, by decide⟩, ⟨_, rfl, by decide⟩, ⟨_, rfl, by decide⟩⟩

theorem witness_EveryOperationFollowsTheTransitionTable : ∃ t, exec (.wrData 0x10) addressing = .next t := ⟨_, rfl⟩

theorem witness_TransactionStateIsWrittenByItsFourWritersOnly :
    (∃ t, exec (.wrControl1 0x101) base = .next t ∧ (t.txnState != base.txnState) = true) ∧
    (∃ t, exec .rdData receiving = .next t) ∧ (∃ t, exec .rdData { receiving with txnState := .idle } = .next t) :=
  ⟨⟨_, rfl, by decide⟩, ⟨_, rfl⟩, ⟨_, rfl⟩⟩

theorem witness_StartOpensAnAddressPhase :
    (0x101 : Word)[15] = false ∧ (0x101 : Word)[9] = false ∧ (0x101 : Word)[8] = true ∧ (0x101 : Word)[0] = true ∧
    base.txnState ≠ .awaitingAddress ∧ base.outBuf = [] ∧
    sending.txnState ≠ .awaitingAddress ∧ sending.outBuf ≠ [] ∧ sending.sel = some 0x08 := by decide

theorem witness_StartInAwaitingAddressIsANoOp :
    (0x501 : Word)[15] = false ∧ (0x501 : Word)[9] = false ∧ (0x501 : Word)[8] = true ∧ (0x501 : Word)[0] = true ∧
    addressing.txnState = .awaitingAddress := by decide

theorem witness_StopEndsTheTransaction :
    (0x201 : Word)[15] = false ∧ (0x201 : Word)[9] = true ∧ (0x201 : Word)[8] = false ∧ (0x201 : Word)[0] = true ∧
    base.outBuf = [] ∧ ({ sending with sel := none } : State).sel = none ∧
    sending.outBuf ≠ [] ∧ sending.sel = some 0x08 := by decide

theorem witness_PeripheralDisableClearsSixFlags :
    (0x400 : Word)[15] = false ∧ (0x400 : Word)[9] = false ∧ (0x400 : Word)[8] = false ∧ (0x400 : Word)[0] = false ∧
    (0x401 : Word)[15] = false ∧ (0x401 : Word)[9] = false ∧ (0x401 : Word)[8] = false ∧ (0x401 : Word)[0] = true := by
  decide

theorem witness_CombinedControl1WritesActInOrder :
    (0xFFFFFFFF : Word)[15] = true ∧ (0xFFFF7FFF : Word)[15] = false := by decide

theorem witness_AddressPhaseForWriting :
    addressing.txnState = .awaitingAddress ∧ (0x10 : Word)[0] = false ∧
    (0x10 : Word).extractLsb' 1 7 ∈ addressing.params.slaves := by decide

theorem witness_AddressPhaseForReading :
    addressing.txnState = .awaitingAddress ∧ (0xA1 : Word)[0] = true ∧
    (0xA1 : Word).extractLsb' 1 7 ∈ addressing.params.slaves ∧ addressing.inQ = [] ∧
    ({ addressing with inQ := [0x11] } : State).inQ ≠ [] := by decide

theorem witness_UnregisteredAddressIsNotAcknowledged :
    addressing.txnState = .awaitingAddress ∧ (0x00 : Word).extractLsb' 1 7 ∉ addressing.params.slaves ∧
    (0xFF : Word).extractLsb' 1 7 ∉ addressing.params.slaves := by decide

theorem witness_DataByteIsAppendedAndItsFlagsDeferred : sending.txnState = .awaitingData ∧ sending.pending = [] := ⟨rfl, rfl⟩

theorem witness_DataWriteInTheWrongStateIsIgnored :
    base.txnState = .idle ∧ receiving.txnState = .receivingData := ⟨rfl, rfl⟩

theorem witness_UpperBitsOfADataWriteAreIgnored :
    ∀ j, j < 8 → (0xFFFFFF10 : Word).getLsbD j = (0x00000010 : Word).getLsbD j := by decide

theorem witness_ReadingDataWhileReceiving :
    receiving.txnState = .receivingData ∧ receiving.inQ = [0x11, 0x22] ∧ receiving.sel = some 0x08 ∧
    ({ receiving with inQ := [0x22] } : State).inQ.length ≤ 1 ∧
    ({ receiving with inQ := [] } : State).inQ.length ≤ 1 ∧
    [Action.dmaRxPulse] = (if nextAnswer receiving ≠ [] ∧
      (receiving.params.dmaRxPulseRequiresDmaEn = true → receiving.dmaEnable = true)
      then [Action.dmaRxPulse] else []) := by decide

theorem witness_ReadingDataOutsideReceiving :
    base.txnState ≠ .receivingData ∧ base.inQ = [] ∧ ({ base with inQ := [0x11] } : State).inQ = [0x11] := by decide

theorem witness_DrainingReturnsTheQueueInOrder :
    receiving.txnState = .receivingData ∧ receiving.inQ = [0x11] ++ [0x22] ∧ ([0x22] : List Byte) ≠ [] := by decide

theorem witness_WriteTransactionDeliversItsBytes :
    base.outBuf = [] ∧ (0x101 : Word)[15] = false ∧ (0x101 : Word)[8] = true ∧ (0x10 : Word)[0] = false ∧
    (0x10 : Word).extractLsb' 1 7 ∈ base.params.slaves ∧
    (∀ i ∈ [Instr.wrData 0xAB, .quiesce, .rdData, .wrControl2 0x200], keepsTransaction i = true) ∧
    (0x201 : Word)[15] = false ∧ (0x201 : Word)[9] = true := by decide

theorem witness_OutgoingBufferIsFlushedWholeOrNotAtAll :
    (∃ t, exec (.wrControl1 0x201) sending = .next t ∧
      (t.slaveLog == sending.slaveLog ++ [.write 0x08 [0xAB]] && t.txnState != .awaitingData) = true) ∧
    (∃ t, exec (.wrControl1 0x101) sending = .next t ∧
      (t.slaveLog == sending.slaveLog ++ [.write 0x08 [0xAB]] && t.txnState != .awaitingData) = true) ∧
    SlaveCall.write 0x08 [0xAB] ∈ [SlaveCall.write 0x08 [0xAB]] ∧ sending.bufferSound :=
  ⟨⟨_, rfl, by decide⟩, ⟨_, rfl, by decide⟩, by decide, by decide⟩

theorem witness_IncomingQueueIsAFifoRefilledOnlyWhenEmpty :
    (∃ t, exec .rdData { receiving with inQ := [0x22] } = .next t ∧
      (t.slaveLog == receiving.slaveLog ++ [.read 0x08 2 [0x33]]) = true) ∧
    (∃ t, exec (.wrData 0x11) { addressing with answers := [[]] } = .next t ∧
      (t.slaveLog == addressing.slaveLog ++ [.read 0x08 2 []]) = true) :=
  ⟨⟨_, rfl, by decide⟩, ⟨_, rfl, by decide⟩⟩

/-- Each flag of Status1 set once and cleared once, ByteTransferFinished also by a refill. -/
theorem witness_Status1FlagsHaveTheirListedWritersOnly :
    (∃ t, exec (.wrControl1 0x101) base = .next t ∧ (!base.startBit && t.startBit) = true) ∧
    (∃ t, exec (.wrData 0x10) addressing = .next t ∧
      (addressing.startBit && !t.startBit && !addressing.addressSentOrMatched && t.addressSentOrMatched
        && !addressing.dataRegisterEmpty && t.dataRegisterEmpty) = true) ∧
    (∃ t, exec .rdStatus2 sending = .next t ∧ (sending.addressSentOrMatched && !t.addressSentOrMatched) = true) ∧
    (∃ t, exec .quiesce { base with pending := [.dataWriteDone] } = .next t ∧
      (!base.byteTransferFinished && t.byteTransferFinished) = true) ∧
    (∃ t, exec (.wrControl1 0x201) receiving = .next t ∧
      (receiving.byteTransferFinished && !t.byteTransferFinished) = true) ∧
    (∃ t, exec (.wrControl1 0x201) sending = .next t ∧ (sending.dataRegisterEmpty && !t.dataRegisterEmpty) = true) ∧
    (∃ t, exec (.wrData 0xFF) addressing = .next t ∧ (!addressing.acknowledgeFailed && t.acknowledgeFailed) = true) ∧
    (∃ t, exec .rdStatus1 nacked = .next t ∧ (nacked.acknowledgeFailed && !t.acknowledgeFailed) = true) ∧
    (∃ t, exec .rdData { receiving with inQ := [], byteTransferFinished := false } = .next t ∧
      t.byteTransferFinished = true) ∧
    (∃ t, exec .rdData { receiving with inQ := [0x22], answers := [[]] } = .next t ∧
      (receiving.byteTransferFinished && !t.byteTransferFinished) = true) :=
  ⟨⟨_, rfl, by decide⟩, ⟨_, rfl, by decide⟩, ⟨_, rfl, by decide⟩, ⟨_, rfl, by decide⟩, ⟨_, rfl, by decide⟩, ⟨_, rfl, by decide⟩, ⟨_, rfl, by decide⟩,
    ⟨_, rfl, by decide⟩, ⟨_, rfl, by decide⟩, ⟨_, rfl, by decide⟩⟩

/-- Each role flag set once and cleared once. -/
theorem witness_RoleFlagsHaveTheirListedWritersOnly :
    (∃ t, exec (.wrControl1 0x501) base = .next t ∧
      (!base.masterSlave && t.masterSlave && !base.acknowledgeEnable && t.acknowledgeEnable) = true) ∧
    (∃ t, exec (.wrControl1 0x400) { sending with acknowledgeEnable := true } = .next t ∧
      (sending.masterSlave && !t.masterSlave && sending.transmitterReceiver && !t.transmitterReceiver
        && !t.acknowledgeEnable) = true) ∧
    (∃ t, exec (.wrData 0xA0) addressing = .next t ∧
      (!addressing.transmitterReceiver && t.transmitterReceiver) = true) :=
  ⟨⟨_, rfl, by decide⟩, ⟨_, rfl, by decide⟩, ⟨_, rfl, by decide⟩⟩

theorem witness_RecomputeIsTheSourcesFunction :
    true = (nacked.errorInterruptEnable && nacked.acknowledgeFailed) ∧
    false = (nacked.eventInterruptEnable && (nacked.startBit || nacked.addressSentOrMatched
      || nacked.byteTransferFinished
      || (nacked.bufferInterruptEnable && (nacked.dataRegisterEmpty || decide (nacked.inQ ≠ []))))) := by decide

theorem witness_NotEmptyFlagIsTheQueueAtThatMoment :
    ({ base with eventInterruptEnable := true, bufferInterruptEnable := true } : State).eventInterruptEnable = true ∧
    ({ base with eventInterruptEnable := true, bufferInterruptEnable := true } : State).bufferInterruptEnable = true ∧
    base.startBit = false ∧ base.addressSentOrMatched = false ∧ base.byteTransferFinished = false ∧
    base.dataRegisterEmpty = false := by decide

theorem witness_LineLogRecordsEveryChangeOfLevel :
    ∃ t, exec .quiesce { base with pending := [.dmaRxPulse] } = .next t ∧ (t.lineLog != base.lineLog) = true :=
  ⟨_, rfl, by decide⟩

theorem witness_InterruptLinesRiseOnlyInARecompute :
    (∃ t, exec .quiesce { addressing with eventInterruptEnable := true, pending := [.recompute] } = .next t ∧
      (!addressing.lines.eventInterrupt && t.lines.eventInterrupt) = true) ∧
    (∃ t, exec (.wrControl1 0x201) { base with errorInterruptEnable := true, acknowledgeFailed := true } = .next t ∧
      (!base.lines.errorInterrupt && t.lines.errorInterrupt) = true) :=
  ⟨⟨_, rfl, by decide⟩, ⟨_, rfl, by decide⟩⟩

theorem witness_DeferredActionsWaitForQuiesceInOrder :
    Instr.wrControl1 0x101 ≠ .quiesce ∧ (∃ t, exec (.wrControl1 0x101) base = .next t) ∧
    (∃ t, exec .reset { base with pending := [.dataWriteDone] } = .next t) := ⟨by decide, ⟨_, rfl⟩, ⟨_, rfl⟩⟩

theorem witness_EachDeferredActionHasItsEffect :
    base.pending = [] ∧ ({ base with pending := [.recompute] } : State).pending = [.recompute] ∧
    ({ base with pending := [.dataWriteDone] } : State).pending = [.dataWriteDone] ∧
    ({ base with pending := [.dmaRxPulse] } : State).pending = [.dmaRxPulse] := by decide

theorem witness_QuiesceBringsInterruptLinesUpToDate :
    Action.recompute ∈ ({ base with pending := [.recompute, .dmaRxPulse] } : State).pending ∧
    (∃ t, exec .quiesce { base with pending := [.recompute, .dmaRxPulse] } = .next t) ∧
    Action.dataWriteDone ∈ ({ base with pending := [.dataWriteDone] } : State).pending ∧
    (∃ t, exec .quiesce { base with pending := [.dataWriteDone] } = .next t) :=
  ⟨by decide, ⟨_, rfl⟩, by decide, ⟨_, rfl⟩⟩

theorem witness_FailedAddressRaisesErrorInterruptAtQuiesce :
    addressing.txnState = .awaitingAddress ∧ (0x66 : Word).extractLsb' 1 7 ∉ addressing.params.slaves ∧
    ({ base with acknowledgeFailed := true } : State).acknowledgeFailed = true ∧
    ({ base with acknowledgeFailed := true } : State).errorInterruptEnable = false ∧ (0x100 : Word)[8] = true ∧
    (base.eventInterruptEnable = true → (0x100 : Word)[9] = true) ∧
    (base.bufferInterruptEnable = true → (0x100 : Word)[10] = true) := by decide

theorem witness_ActionsPendingAtAResetStillRun :
    Action.dataWriteDone ∈ ({ base with pending := [.dataWriteDone] } : State).pending ∧
    Action.dataWriteDone ∉ ({ base with pending := [.dmaRxPulse] } : State).pending := by decide

theorem witness_StopBeforeQuiesceLeavesTheFlagsSet :
    Action.dataWriteDone ∈ ({ sending with pending := [.dataWriteDone] } : State).pending ∧
    (0x201 : Word)[15] = false ∧ (0x201 : Word)[9] = true ∧ (0x201 : Word)[8] = false := by decide

theorem witness_EveryStepKeepsSoundness :
    State.Sound (issue (accessOf ⟨0x410, 0x10⟩) addressing) ∧
    (∃ t, step (issue (accessOf ⟨0x410, 0x10⟩) addressing) = .next t) := ⟨by decide, ⟨_, rfl⟩⟩

theorem witness_EveryOperationReturnsInASoundState :
    State.Sound base ∧ State.Sound addressing ∧ State.Sound sending ∧ State.Sound receiving :=
  ⟨by decide, by decide, by decide, by decide⟩

theorem witness_OperationsStopOnlyWithoutASelectedSlave :
    exec (.wrControl1 0x101) { sending with sel := none } = .fault .noSelectedSlave ∧
    exec .rdData { receiving with sel := none, inQ := [0x11] } = .fault .noSelectedSlave := ⟨rfl, rfl⟩

theorem witness_ParametersAndInputsAreNotTheBlocksToChange :
    ∃ t, exec .rdData { receiving with inQ := [0x22] } = .next t ∧ (t.answers != receiving.answers) = true :=
  ⟨_, rfl, by decide⟩

theorem witness_TracesGrowByAtMostOneCallAndItsDiagnostic : ∃ t, exec .rdData { receiving with inQ := [] } = .next t :=
  ⟨_, rfl⟩

theorem witness_StoredOnlyFieldsInfluenceNothing :
    (coreOf base == coreOf { base with freq := 0x3F, ownAddress1 := 0x4052, periEn := true }) = true ∧
    (∃ t, exec (.wrControl2 0x800) base = .next t) := ⟨by decide, ⟨_, rfl⟩⟩

theorem witness_ALingeringSelectionIsNotObservable :
    base.txnState = .idle ∧ addressing.txnState = .awaitingAddress ∧ base.outBuf = [] ∧ addressing.outBuf = [] ∧
    (∃ t, exec (.wrData 0xA0) addressing = .next t) ∧ (∃ t, exec (.wrControl1 0x201) base = .next t) :=
  ⟨rfl, rfl, rfl, rfl, ⟨_, rfl⟩, ⟨_, rfl⟩⟩

end Sys2Proof.Tests
end

section
/-! PROOFS. The Transaction State and the last read value after each operation, and what follows for R32 and R33. -/

namespace Sys2Proof.Machine

/-! ## The two fields through the shared operations -/

@[simp] theorem storeControl1_txnState (v : Word) (s : State) : (storeControl1 v s).txnState = s.txnState := rfl

/-- `Reset()` leaves the block in Idle (R240). -/
@[simp] theorem resetBlock_txnState (s : State) : (resetBlock s).txnState = .idle := rfl

@[simp] theorem peripheralDisable_txnState (s : State) : (peripheralDisable s).txnState = s.txnState := rfl

@[simp] theorem clearAcknowledgeFailed_txnState (s : State) : (clearAcknowledgeFailed s).txnState = s.txnState := by
  obtain ⟨ls, log, h⟩ := clearAcknowledgeFailed_shape s
  rw [h]

@[simp] theorem clearAcknowledgeFailed_readData (s : State) : (clearAcknowledgeFailed s).readData = s.readData := by
  obtain ⟨ls, log, h⟩ := clearAcknowledgeFailed_shape s
  rw [h]

@[simp] theorem clearAddressSent_txnState (s : State) : (clearAddressSent s).txnState = s.txnState := by
  obtain ⟨ls, log, h⟩ := clearAddressSent_shape s
  rw [h]

@[simp] theorem runPending_txnState (as : List Action) (s : State) : (runPending as s).txnState = s.txnState := by
  obtain ⟨f, g, ls, log, h⟩ := runPending_shape as s
  rw [h]

@[simp] theorem runPending_readData (as : List Action) (s : State) : (runPending as s).readData = s.readData := by
  obtain ⟨f, g, ls, log, h⟩ := runPending_shape as s
  rw [h]

@[simp] theorem stop_readData (s : State) : (stop s).readData = s.readData := by
  obtain ⟨ls, log, ⟨-, h⟩ | ⟨a, -, -, h⟩⟩ := stop_cases s <;> rw [h]

/-- START ends in AwaitingAddress, from wherever it began (R140, R141). -/
theorem start_txnState {s t : State} (h : start s = .next t) : t.txnState = .awaitingAddress := by
  obtain ⟨hs, rfl⟩ | ⟨-, -, rfl⟩ | ⟨-, -, a, -, rfl⟩ := start_cases h
  · exact hs
  · rfl
  · rfl

theorem start_readData {s t : State} (h : start s = .next t) : t.readData = s.readData := by
  obtain ⟨-, rfl⟩ | ⟨-, -, rfl⟩ | ⟨-, -, a, -, rfl⟩ := start_cases h <;> rfl

/-! ## The Transaction State after each operation (R140) -/

/-- STOP comes before START, and peripheral-disable leaves the Transaction State untouched (R101, R150). -/
theorem execWrControl1_txnState {v : Word} {s t : State} (h : execWrControl1 v s = .next t) :
    t.txnState = txnAfter s (.wrControl1 v) := by
  obtain ⟨hr, rfl⟩ | ⟨hr, stopped, started, hstop, hstart, hperi⟩ := execWrControl1_cases h
  · simp [txnAfter, hr]
  · have last : t.txnState = started.txnState := by
      obtain ⟨-, rfl⟩ | ⟨-, rfl⟩ := hperi <;> simp
    rw [last]
    obtain ⟨hv, hst⟩ | ⟨hv, rfl⟩ := hstart
    · simp [txnAfter, hr, hv, start_txnState hst]
    · obtain ⟨hw, rfl⟩ | ⟨hw, rfl⟩ := hstop
      · simp [txnAfter, hr, hv, hw]
      · simp [txnAfter, hr, hv, hw]

theorem execWrControl2_txnState {v : Word} {s t : State} (h : execWrControl2 v s = .next t) :
    t.txnState = s.txnState := by
  obtain ⟨ls, log, p, hs⟩ := execWrControl2_shape v s
  rw [hs] at h
  cases h
  rfl

theorem execRdData_txnState {s t : State} (h : execRdData s = .next t) : t.txnState = s.txnState := by
  obtain ⟨ls, log, v, ⟨-, b, c, rest, -, rfl⟩ | ⟨-, -, a, p, -, rfl⟩ | ⟨-, -, rfl⟩ | ⟨-, b, rest, -, rfl⟩⟩ :=
    execRdData_cases h <;> rfl

theorem execWrData_txnState {v : Word} {s t : State} (h : execWrData v s = .next t) :
    t.txnState = txnAfter s (.wrData v) := by
  obtain ⟨hs, hf, rfl⟩ | ⟨hs, hf, hd, rfl⟩ | ⟨hs, hf, hd, -, rfl⟩ | ⟨hs, hf, hd, -, rfl⟩ | ⟨hs, rfl⟩ |
    ⟨hs | hs, rfl⟩ := execWrData_cases h
  · simp [txnAfter, hs, hf]
  · simp [txnAfter, hs, hf, hd]
  · simp [txnAfter, hs, hf, hd]
  · simp [txnAfter, hs, hf, hd]
  · simp [txnAfter, hs]
  · simp [txnAfter, hs]
  · simp [txnAfter, hs]

/-- The Transaction State after an operation is the one of the transition table (R140). -/
theorem exec_txnState {i : Instr} {s t : State} (h : exec i s = .next t) : t.txnState = txnAfter s i := by
  cases i with
  | wrControl1 v => exact execWrControl1_txnState h
  | wrControl2 v => exact execWrControl2_txnState h
  | rdData => exact execRdData_txnState h
  | wrData v => exact execWrData_txnState h
  | rdStatus1 => cases h; rw [returnValue_txnState]; split <;> simp [txnAfter]
  | wrStatus1 v => cases h; split <;> simp [txnAfter]
  | rdStatus2 => cases h; simp [txnAfter]
  | quiesce => cases h; simp [txnAfter]
  | _ => cases h; rfl

/-- The table leaves the Transaction State as it is where no START, STOP, address phase or reset is run (R33, R140). -/
theorem txnAfter_ne_self {s : State} {i : Instr} (h : txnAfter s i ≠ s.txnState) :
    isStartOp i = true ∨ isStopOp i = true ∨ isAddressOp s i = true ∨ isResetOp i = true := by
  cases i with
  | wrControl1 v =>
    cases hr : v[15] with
    | true => simp [isResetOp, hr]
    | false =>
      cases hstart : v[8] with
      | true => simp [isStartOp, hr, hstart]
      | false =>
        cases hstop : v[9] with
        | true => simp [isStopOp, hr, hstop]
        | false => simp [txnAfter, hr, hstart, hstop] at h
  | wrData v =>
    by_cases hs : s.txnState = .awaitingAddress
    · simp [isAddressOp, hs]
    · simp [txnAfter, hs] at h
  | reset => simp [isResetOp]
  | _ => exact absurd rfl h

/-! ## The last read value after each operation (R10) -/

/-- What the host's last read has returned once an operation has gone on: the value of a read operation, and after any
other operation what it was. -/
def lastReadAfter (s : State) : Instr → Option Word
  | .rdControl1 => some (control1Value s)
  | .rdControl2 => some (control2Value s)
  | .rdOwnAddress1 => some s.ownAddress1
  | .rdOwnAddress2 => some s.ownAddress2
  | .rdData => some (dataValue (headByte s))
  | .rdStatus1 => some (status1Value s)
  | .rdStatus2 => some (status2Value s)
  | .rdClockControl => some s.clockControl
  | .rdRiseTime => some s.riseTime
  | .rdNoiseFilter => some s.noiseFilter
  | .rdUnmapped _ => some 0
  | _ => s.readData

theorem execWrControl1_readData {v : Word} {s t : State} (h : execWrControl1 v s = .next t) :
    t.readData = s.readData := by
  obtain ⟨-, rfl⟩ | ⟨-, stopped, started, hstop, hstart, hperi⟩ := execWrControl1_cases h
  · rfl
  · calc t.readData
      _ = started.readData := by obtain ⟨-, rfl⟩ | ⟨-, rfl⟩ := hperi <;> rfl
      _ = stopped.readData := by
        obtain ⟨-, hst⟩ | ⟨-, rfl⟩ := hstart
        · exact start_readData hst
        · rfl
      _ = s.readData := by
        obtain ⟨-, rfl⟩ | ⟨-, rfl⟩ := hstop
        · exact stop_readData _
        · rfl

theorem execWrControl2_readData {v : Word} {s t : State} (h : execWrControl2 v s = .next t) :
    t.readData = s.readData := by
  obtain ⟨ls, log, p, hs⟩ := execWrControl2_shape v s
  rw [hs] at h
  cases h
  rfl

theorem execWrData_readData {v : Word} {s t : State} (h : execWrData v s = .next t) :
    t.readData = s.readData := by
  obtain ⟨-, -, rfl⟩ | ⟨-, -, -, rfl⟩ | ⟨-, -, -, -, rfl⟩ | ⟨-, -, -, -, rfl⟩ | ⟨-, rfl⟩ | ⟨-, rfl⟩ :=
    execWrData_cases h <;> rfl

/-- A read of Data returns the head of the queue, or 0, in every Transaction State (R148). -/
theorem execRdData_readData {s t : State} (h : execRdData s = .next t) :
    t.readData = some (dataValue (headByte s)) := by
  by_cases hs : s.txnState = .receivingData
  · simp only [execRdData, hs] at h
    obtain ⟨u, -, hu⟩ := andThen_eq_next h
    cases hu
    rfl
  · rw [execRdData_elsewhere hs] at h
    cases h
    rfl

theorem exec_readData {i : Instr} {s t : State} (h : exec i s = .next t) : t.readData = lastReadAfter s i := by
  cases i with
  | wrControl1 v => exact execWrControl1_readData h
  | wrControl2 v => exact execWrControl2_readData h
  | rdData => exact execRdData_readData h
  | wrData v => exact execWrData_readData h
  | wrStatus1 v => cases h; split <;> simp [lastReadAfter]
  | quiesce => cases h; simp [lastReadAfter]
  | _ => cases h; rfl

/-- No value a read returns is made from the Transaction State (R33). -/
theorem lastReadAfter_withTxnState (s : State) (x : TxnState) (i : Instr) :
    lastReadAfter { s with txnState := x } i = lastReadAfter s i := by
  cases i <;> rfl

/-- Settles O19: the transition table moves the Transaction State in the four writers only, and the value of a read is
made from other fields. -/
theorem transactionStateIsWrittenByItsFourWritersOnly :
    Obligations.TransactionStateIsWrittenByItsFourWritersOnly := by
  refine ⟨rfl, fun i s t h hne => ?_, fun i s t t' x h h' => ?_⟩
  · rw [exec_txnState h] at hne
    exact txnAfter_ne_self hne
  · rw [exec_readData h', exec_readData h, lastReadAfter_withTxnState]

/-! ## DataRegisterNotEmpty (R32) -/

@[simp] theorem dataRegisterNotEmpty_iff (s : State) : dataRegisterNotEmpty s = true ↔ s.inQ ≠ [] := by
  simp [dataRegisterNotEmpty_eq]

/-- Bit 6 of Status1 is DataRegisterNotEmpty (R27, R108). -/
theorem status1Value_bit6 (s : State) : (status1Value s)[6] = dataRegisterNotEmpty s := by
  simpa using status1Value_bit s 6

/-- With both enables true and the other sources false, Event is DataRegisterNotEmpty (R170). -/
theorem eventLevel_of_only_queue {s : State} (hevent : s.eventInterruptEnable = true)
    (hbuffer : s.bufferInterruptEnable = true) (hstart : s.startBit = false)
    (haddr : s.addressSentOrMatched = false) (hbtf : s.byteTransferFinished = false)
    (hempty : s.dataRegisterEmpty = false) : eventLevel s = dataRegisterNotEmpty s := by
  simp [eventLevel, hevent, hbuffer, hstart, haddr, hbtf, hempty]

/-- Settles O41: both places that ask for the flag compute it from the queue. -/
theorem notEmptyFlagIsTheQueueAtThatMoment : Obligations.NotEmptyFlagIsTheQueueAtThatMoment := by
  intro s
  refine ⟨⟨_, status1Value s, rfl, rfl, ?_⟩, fun hevent hbuffer hstart haddr hbtf hempty => ?_⟩
  · rw [status1Value_bit6, dataRegisterNotEmpty_iff]
  · rw [recompute_lines, eventLevel_of_only_queue hevent hbuffer hstart haddr hbtf hempty, dataRegisterNotEmpty_iff]

end Sys2Proof.Machine
end

section
/-! PROOFS. Accesses at an offset with no register (R118, R119). -/

namespace Sys2Proof.Machine

/-- Recording a diagnostic changes the record and nothing else (R12). -/
theorem diag_eq (k : DiagKind) (s : State) : diag k s = { s with diagLog := s.diagLog ++ [k] } := rfl

/-- Returning a value to the host changes the last read value and nothing else (R10). -/
theorem returnValue_eq (v : Word) (s : State) : returnValue v s = { s with readData := some v } := rfl

/-- The offset of an unmapped read is not used (R118). -/
theorem exec_rdUnmapped (off : Offset) (s : State) :
    exec (.rdUnmapped off) s = .next (returnValue 0 (diag .unmappedAccess s)) := rfl

/-- Neither the offset nor the value of an unmapped write is used (R119). -/
theorem exec_wrUnmapped (off : Offset) (v : Word) (s : State) :
    exec (.wrUnmapped off v) s = .next (diag .unmappedAccess s) := rfl

/-- Settles O12: both operations record the diagnostic, and the read returns 0 besides. -/
theorem unmappedAccessesOnlyRecord : Obligations.UnmappedAccessesOnlyRecord := by
  intro s off v
  constructor
  · rw [exec_rdUnmapped, returnValue_eq, diag_eq]
  · rw [exec_wrUnmapped, diag_eq]

end Sys2Proof.Machine
end

section
/-! PROOFS. Writes of Data in AwaitingData, Idle and ReceivingData (R146, R147). -/

namespace Sys2Proof.Machine

/-! ## One write of Data -/

theorem exec_wrData_awaitingData {s : State} (v : Word) (hs : s.txnState = .awaitingData) :
    exec (.wrData v) s = .next (dataPhase (dataByteOf v) s) := by
  simp [exec, execWrData, hs]

theorem exec_wrData_wrongState {s : State} (v : Word) (hs : s.txnState = .idle ∨ s.txnState = .receivingData) :
    exec (.wrData v) s = .next (diag .invalidStateWrite s) := by
  rcases hs with hs | hs <;> simp [exec, execWrData, hs]

/-- A data byte goes to the end of the Outgoing Buffer and its effect on the flags to the end of Pending (R146). -/
theorem dataPhase_eq (b : Byte) (s : State) :
    dataPhase b s = { s with outBuf := s.outBuf ++ [b], pending := s.pending ++ [.dataWriteDone] } := rfl

/-- Settles O29: the two states share the arm that only records the diagnostic. -/
theorem dataWriteInTheWrongStateIsIgnored : Obligations.DataWriteInTheWrongStateIsIgnored := by
  intro s v hs
  rw [exec_wrData_wrongState v hs, diag_eq]

/-! ## The QUIESCE after it -/

theorem runPending_cons (a : Action) (rest : List Action) (s : State) :
    runPending (a :: rest) s = runPending rest (runAction a { s with pending := rest }) := rfl

theorem exec_quiesce (s : State) : exec .quiesce s = .next (runPending s.pending s) := rfl

theorem runPending_nil {s : State} (hp : s.pending = []) : runPending [] s = s := by
  simp only [runPending, ← hp]

/-- A QUIESCE with one action pending runs that action and nothing else (R191). -/
theorem exec_quiesce_singleton {s : State} {a : Action} (hp : s.pending = [a]) :
    exec .quiesce s = .next (runAction a { s with pending := [] }) := by
  rw [exec_quiesce, hp, runPending_cons, runPending_nil (runAction_pending a _)]

/-- Settles O28: the write is the data phase, and the one action it leaves pending is all that QUIESCE runs. -/
theorem dataByteIsAppendedAndItsFlagsDeferred : Obligations.DataByteIsAppendedAndItsFlagsDeferred := by
  intro s b hs
  have hwrite := exec_wrData_awaitingData (b.setWidth 32) hs
  rw [dataByteOf_setWidth, dataPhase_eq] at hwrite
  refine ⟨hwrite, fun hp => ?_⟩
  simp only [runOps, hwrite, andThen_next, hp, List.nil_append]
  rw [exec_quiesce_singleton rfl]
  simp only [andThen_next, runAction, ← hp]

end Sys2Proof.Machine
end

section
/-! PROOFS. What each operation does to the Outgoing Buffer and which `Write` calls it makes (R34, R143). -/

namespace Sys2Proof.Machine

/-! ## The buffer and the slave calls through the shared operations -/

@[simp] theorem clearAcknowledgeFailed_outBuf (s : State) : (clearAcknowledgeFailed s).outBuf = s.outBuf := by
  obtain ⟨ls, log, h⟩ := clearAcknowledgeFailed_shape s
  rw [h]

@[simp] theorem clearAcknowledgeFailed_slaveLog (s : State) : (clearAcknowledgeFailed s).slaveLog = s.slaveLog := by
  obtain ⟨ls, log, h⟩ := clearAcknowledgeFailed_shape s
  rw [h]

@[simp] theorem clearAddressSent_outBuf (s : State) : (clearAddressSent s).outBuf = s.outBuf := by
  obtain ⟨ls, log, h⟩ := clearAddressSent_shape s
  rw [h]

@[simp] theorem clearAddressSent_slaveLog (s : State) : (clearAddressSent s).slaveLog = s.slaveLog := by
  obtain ⟨ls, log, h⟩ := clearAddressSent_shape s
  rw [h]

@[simp] theorem runPending_outBuf (as : List Action) (s : State) : (runPending as s).outBuf = s.outBuf := by
  obtain ⟨f, g, ls, log, h⟩ := runPending_shape as s
  rw [h]

/-- No deferred action calls a slave (R192). -/
@[simp] theorem runPending_slaveLog (as : List Action) (s : State) : (runPending as s).slaveLog = s.slaveLog := by
  obtain ⟨f, g, ls, log, h⟩ := runPending_shape as s
  rw [h]

/-! ## STOP and START: kept, or flushed whole -/

/-- Bytes that could be sent leave AwaitingData only by being sent: what a part of an operation that keeps the buffer
owes to R44 (1). -/
def HoldsTransaction (s t : State) : Prop :=
  s.outBuf ≠ [] → s.sel ≠ none → s.txnState = .awaitingData → t.txnState = .awaitingData

/-- What STOP, START and their sequence do to the buffer: nothing, or one `Write` of the whole of it (R141 to R143). -/
inductive KeptOrFlushed (s t : State) : Prop
  | kept (buf : t.outBuf = s.outBuf) (log : t.slaveLog = s.slaveLog) (holds : HoldsTransaction s t)
  | flushed (a : SlaveAddr) (sel : s.sel = some a) (bytes : s.outBuf ≠ []) (buf : t.outBuf = [])
      (log : t.slaveLog = s.slaveLog ++ [.write a s.outBuf])

theorem HoldsTransaction.of_txnState_eq {s t : State} (h : t.txnState = s.txnState) : HoldsTransaction s t :=
  fun _ _ hs => h.trans hs

theorem HoldsTransaction.of_txnState_ne {s t : State} (h : s.txnState ≠ .awaitingData) : HoldsTransaction s t :=
  fun _ _ hs => absurd hs h

theorem HoldsTransaction.of_outBuf_nil {s t : State} (h : s.outBuf = []) : HoldsTransaction s t :=
  fun hb _ _ => absurd h hb

theorem KeptOrFlushed.of_frame {s t : State} (buf : t.outBuf = s.outBuf) (log : t.slaveLog = s.slaveLog)
    (txn : t.txnState = s.txnState) : KeptOrFlushed s t :=
  .kept buf log (.of_txnState_eq txn)

/-- Two parts that share the selected slave flush at most once: after a flush the buffer is empty. -/
theorem KeptOrFlushed.trans {s u t : State} (hsu : KeptOrFlushed s u) (hut : KeptOrFlushed u t)
    (hsel : u.sel = s.sel) : KeptOrFlushed s t := by
  cases hsu with
  | kept buf log holds =>
    cases hut with
    | kept buf' log' holds' =>
      refine .kept (buf'.trans buf) (log'.trans log) fun hb ha hs => ?_
      exact holds' (by rwa [buf]) (by rwa [hsel]) (holds hb ha hs)
    | flushed a sel bytes buf' log' =>
      rw [buf] at bytes log'
      exact .flushed a (hsel.symm.trans sel) bytes buf' (by rw [log', log])
  | flushed a sel bytes buf log =>
    cases hut with
    | kept buf' log' _ => exact .flushed a sel bytes (buf'.trans buf) (log'.trans log)
    | flushed _ _ bytes' _ _ => exact absurd buf bytes'

theorem keptOrFlushed_stop (s : State) : KeptOrFlushed s (stop s) := by
  obtain ⟨ls, log, ⟨hnone, h⟩ | ⟨a, ha, hb, h⟩⟩ := stop_cases s <;> rw [h]
  · refine .kept rfl rfl fun hb ha _ => ?_
    exact (hnone.elim hb ha).elim
  · exact .flushed a ha hb rfl rfl

/-- START keeps the selected slave (R141). -/
theorem start_sel {s t : State} (h : start s = .next t) : t.sel = s.sel := by
  obtain ⟨-, rfl⟩ | ⟨-, -, rfl⟩ | ⟨-, -, a, -, rfl⟩ := start_cases h <;> rfl

theorem keptOrFlushed_start {s t : State} (h : start s = .next t) : KeptOrFlushed s t := by
  obtain ⟨-, rfl⟩ | ⟨-, hb, rfl⟩ | ⟨-, hb, a, ha, rfl⟩ := start_cases h
  · exact .of_frame rfl rfl rfl
  · exact .kept rfl rfl (.of_outBuf_nil hb)
  · exact .flushed a ha hb rfl rfl

/-- A write of Control1 without SoftwareReset is its STOP, then its START, between parts that leave the buffer alone. -/
theorem keptOrFlushed_execWrControl1 {v : Word} {s t : State} (hr : v[15] = false)
    (h : execWrControl1 v s = .next t) : KeptOrFlushed s t := by
  obtain ⟨hr', -⟩ | ⟨-, stopped, started, hstop, hstart, hperi⟩ := execWrControl1_cases h
  · simp [hr] at hr'
  have storePart : KeptOrFlushed s (storeControl1 v s) := .of_frame rfl rfl rfl
  have stopPart : KeptOrFlushed (storeControl1 v s) stopped := by
    obtain ⟨-, rfl⟩ | ⟨-, rfl⟩ := hstop
    · exact keptOrFlushed_stop _
    · exact .of_frame rfl rfl rfl
  have startPart : KeptOrFlushed stopped started := by
    obtain ⟨-, hst⟩ | ⟨-, rfl⟩ := hstart
    · exact keptOrFlushed_start hst
    · exact .of_frame rfl rfl rfl
  have disablePart : KeptOrFlushed started t := by
    obtain ⟨-, rfl⟩ | ⟨-, rfl⟩ := hperi <;> exact .of_frame rfl rfl rfl
  have stoppedSel : stopped.sel = s.sel := by
    obtain ⟨-, rfl⟩ | ⟨-, rfl⟩ := hstop
    · exact stop_sel _
    · rfl
  have startedSel : started.sel = stopped.sel := by
    obtain ⟨-, hst⟩ | ⟨-, rfl⟩ := hstart
    · exact start_sel hst
    · rfl
  exact ((storePart.trans stopPart rfl).trans startPart stoppedSel).trans disablePart (startedSel.trans stoppedSel)

/-- Without STOP, START and SoftwareReset a write of Control1 leaves the buffer, the slaves and the transaction alone. -/
theorem execWrControl1_frame_of_no_trigger {v : Word} {s t : State} (hr : v[15] = false) (hstop : v[9] = false)
    (hstart : v[8] = false) (h : execWrControl1 v s = .next t) :
    t.outBuf = s.outBuf ∧ t.slaveLog = s.slaveLog ∧ t.txnState = s.txnState := by
  obtain ⟨hr', -⟩ | ⟨-, stopped, started, ⟨h9, -⟩ | ⟨-, rfl⟩, ⟨h8, -⟩ | ⟨-, rfl⟩, hperi⟩ := execWrControl1_cases h
  · simp [hr] at hr'
  · simp [hstop] at h9
  · simp [hstop] at h9
  · simp [hstart] at h8
  · obtain ⟨-, rfl⟩ | ⟨-, rfl⟩ := hperi <;> exact ⟨rfl, rfl, rfl⟩

/-! ## Every operation -/

/-- No `Write` is among the calls. -/
def NoWriteIn (calls : List SlaveCall) : Prop := ∀ a bytes, SlaveCall.write a bytes ∉ calls

theorem noWriteIn_nil : NoWriteIn [] := fun _ _ => List.not_mem_nil

theorem noWriteIn_read (a : SlaveAddr) (n : Nat) (bytes : List Byte) : NoWriteIn [.read a n bytes] := by
  simp [NoWriteIn]

/-- What an operation does to the Outgoing Buffer, with its `Write` calls: nothing and none; one byte more; the whole
flushed to the selected slave; the whole dropped (R34, R143, R145, R146, R240). -/
inductive BufferEffect (i : Instr) (s t : State) : Prop
  | kept (new : List SlaveCall) (buf : t.outBuf = s.outBuf) (log : t.slaveLog = s.slaveLog ++ new)
      (noWrite : NoWriteIn new) (holds : HoldsTransaction s t)
  | appended (v : Word) (op : i = .wrData v) (txn : s.txnState = .awaitingData)
      (buf : t.outBuf = s.outBuf ++ [dataByteOf v]) (log : t.slaveLog = s.slaveLog)
  | flushed (a : SlaveAddr) (op : isStopOp i = true ∨ isStartOp i = true) (sel : s.sel = some a)
      (bytes : s.outBuf ≠ []) (buf : t.outBuf = []) (log : t.slaveLog = s.slaveLog ++ [.write a s.outBuf])
  | dropped (op : (isAddressOp s i = true ∧ addressFound s i = true ∧ addressReads i = false) ∨ isResetOp i = true)
      (buf : t.outBuf = []) (log : t.slaveLog = s.slaveLog)

theorem BufferEffect.of_frame {i : Instr} {s t : State} (buf : t.outBuf = s.outBuf) (log : t.slaveLog = s.slaveLog)
    (txn : t.txnState = s.txnState) : BufferEffect i s t :=
  .kept [] buf (by simp [log]) noWriteIn_nil (.of_txnState_eq txn)

theorem bufferEffect_wrControl1 {v : Word} {s t : State} (h : execWrControl1 v s = .next t) :
    BufferEffect (.wrControl1 v) s t := by
  cases hr : v[15] with
  | true =>
    obtain ⟨-, rfl⟩ | ⟨hr', -⟩ := execWrControl1_cases h
    · exact .dropped (.inr hr) rfl rfl
    · simp [hr] at hr'
  | false =>
    by_cases op : isStopOp (.wrControl1 v) = true ∨ isStartOp (.wrControl1 v) = true
    · cases keptOrFlushed_execWrControl1 hr h with
      | kept buf log holds => exact .kept [] buf (by simp [log]) noWriteIn_nil holds
      | flushed a sel bytes buf log => exact .flushed a op sel bytes buf log
    · simp only [isStopOp, isStartOp, softwareResetOf_eq, stopGenOf_eq, startGenOf_eq, hr, Bool.not_false,
        Bool.true_and, not_or, Bool.not_eq_true] at op
      obtain ⟨buf, log, txn⟩ := execWrControl1_frame_of_no_trigger hr op.1 op.2 h
      exact .of_frame buf log txn

theorem bufferEffect_wrControl2 {v : Word} {s t : State} (h : execWrControl2 v s = .next t) :
    BufferEffect (.wrControl2 v) s t := by
  obtain ⟨ls, log, p, hs⟩ := execWrControl2_shape v s
  rw [hs] at h
  cases h
  exact .of_frame rfl rfl rfl

theorem bufferEffect_rdData {s t : State} (h : execRdData s = .next t) : BufferEffect .rdData s t := by
  obtain ⟨ls, log, v, ⟨-, b, c, rest, -, rfl⟩ | ⟨-, -, a, p, -, rfl⟩ | ⟨-, -, rfl⟩ | ⟨-, b, rest, -, rfl⟩⟩ :=
    execRdData_cases h
  · exact .of_frame rfl rfl rfl
  · exact .kept _ rfl rfl (noWriteIn_read _ _ _) (.of_txnState_eq rfl)
  · exact .of_frame rfl rfl rfl
  · exact .of_frame rfl rfl rfl

theorem bufferEffect_wrData {v : Word} {s t : State} (h : execWrData v s = .next t) :
    BufferEffect (.wrData v) s t := by
  obtain ⟨hs, -, rfl⟩ | ⟨hs, hf, hd, rfl⟩ | ⟨hs, -, -, -, rfl⟩ | ⟨hs, -, -, -, rfl⟩ | ⟨hs, rfl⟩ | ⟨-, rfl⟩ :=
    execWrData_cases h
  · exact .kept [] rfl (by simp) noWriteIn_nil (.of_txnState_ne (by simp [hs]))
  · exact .dropped (.inl (by simp [isAddressOp, addressFound, addressReads, hs, hf, hd])) rfl rfl
  · exact .kept [] rfl (by simp) noWriteIn_nil (.of_txnState_ne (by simp [hs]))
  · exact .kept _ rfl rfl (noWriteIn_read _ _ _) (.of_txnState_ne (by simp [hs]))
  · exact .appended v rfl hs rfl rfl
  · exact .of_frame rfl rfl rfl

theorem exec_bufferEffect {i : Instr} {s t : State} (h : exec i s = .next t) : BufferEffect i s t := by
  cases i with
  | wrControl1 v => exact bufferEffect_wrControl1 h
  | wrControl2 v => exact bufferEffect_wrControl2 h
  | rdData => exact bufferEffect_rdData h
  | wrData v => exact bufferEffect_wrData h
  | rdStatus1 => cases h; split <;> exact .of_frame (by simp) (by simp) (by simp)
  | wrStatus1 v => cases h; split <;> exact .of_frame (by simp) (by simp) (by simp)
  | rdStatus2 => cases h; exact .of_frame (by simp) (by simp) (by simp)
  | quiesce => cases h; exact .of_frame (by simp) (by simp) (by simp)
  | reset => cases h; exact .dropped (.inr rfl) rfl rfl
  | _ => cases h; exact .of_frame rfl rfl rfl

/-! ## The three clauses -/

/-- A `Write` among an operation's calls is the flush: an operation of any other effect makes none. -/
theorem BufferEffect.write_is_flush {i : Instr} {s t : State} (heff : BufferEffect i s t) {new : List SlaveCall}
    {a : SlaveAddr} {bytes : List Byte} (hnew : t.slaveLog = s.slaveLog ++ new) (hmem : .write a bytes ∈ new) :
    (isStopOp i = true ∨ isStartOp i = true) ∧
    new = [.write a bytes] ∧ s.sel = some a ∧ bytes = s.outBuf ∧ s.outBuf ≠ [] ∧ t.outBuf = [] := by
  cases heff with
  | kept new' _ log noWrite _ =>
    obtain rfl : new = new' := List.append_cancel_left (hnew.symm.trans log)
    exact absurd hmem (noWrite a bytes)
  | appended _ _ _ _ log =>
    obtain rfl : new = [] := by simpa [log] using hnew
    exact absurd hmem List.not_mem_nil
  | flushed b op sel nonempty buf log =>
    obtain rfl : new = [.write b s.outBuf] := List.append_cancel_left (hnew.symm.trans log)
    obtain ⟨rfl, rfl⟩ : a = b ∧ bytes = s.outBuf := by simpa using hmem
    exact ⟨op, rfl, sel, rfl, nonempty, buf⟩
  | dropped _ _ log =>
    obtain rfl : new = [] := by simpa [log] using hnew
    exact absurd hmem List.not_mem_nil

/-- From a state with R44 (1) the buffer is empty once the operation does not end in AwaitingData. -/
theorem BufferEffect.outBuf_nil {i : Instr} {s t : State} (heff : BufferEffect i s t)
    (htable : t.txnState = txnAfter s i) (hsound : s.bufferSound) (hend : t.txnState ≠ .awaitingData) :
    t.outBuf = [] := by
  cases heff with
  | kept _ buf _ _ holds =>
    rw [buf]
    by_contra hb
    obtain ⟨hs, ha⟩ := hsound hb
    exact hend (holds hb ha hs)
  | appended v op txn _ _ => simp [htable, op, txnAfter, txn] at hend
  | flushed _ _ _ _ buf _ => exact buf
  | dropped _ buf _ => exact buf

/-- Settles O35: the four effects on the buffer give each clause. -/
theorem outgoingBufferIsFlushedWholeOrNotAtAll : Obligations.OutgoingBufferIsFlushedWholeOrNotAtAll := by
  intro i s t h
  have heff := exec_bufferEffect h
  refine ⟨fun new a bytes hnew hmem => heff.write_is_flush hnew hmem, ?_, heff.outBuf_nil (exec_txnState h)⟩
  cases heff with
  | kept _ buf _ _ _ => exact .inl buf
  | appended v op txn buf _ => exact .inr (.inl ⟨v, op, txn, buf⟩)
  | flushed a op sel _ buf log => exact .inr (.inr ⟨buf, .inl ⟨a, sel, log, op⟩⟩)
  | dropped op buf _ => exact .inr (.inr ⟨buf, .inr op⟩)

end Sys2Proof.Machine
end

section
/-! PROOFS. Encoding and decoding are each other's way back, and both follow the opcode table (R80 to R83). -/

namespace Sys2Proof

/-! ## From an operation to its word and back -/

theorem decodeRead_of_unmapped {off : Offset} (h : isUnmapped off = true) : decodeRead off = .rdUnmapped off := by
  rw [decodeRead, registerAt_eq_none.mpr h]

theorem decodeWrite_of_unmapped {off : Offset} (h : isUnmapped off = true) (v : Word) :
    decodeWrite off v = .wrUnmapped off v := by
  rw [decodeWrite, registerAt_eq_none.mpr h]

/-- Settles O3: an operation on a register is that register's read or write; an unmapped access comes back because its
offset holds no register. -/
theorem decodeInvertsEncode : Obligations.DecodeInvertsEncode := by
  intro i hi
  cases i with
  | rdControl1 => exact decode_encode_readOf .control1
  | wrControl1 v => exact decode_encode_writeOf v .control1
  | rdControl2 => exact decode_encode_readOf .control2
  | wrControl2 v => exact decode_encode_writeOf v .control2
  | rdOwnAddress1 => exact decode_encode_readOf .ownAddress1
  | wrOwnAddress1 v => exact decode_encode_writeOf v .ownAddress1
  | rdOwnAddress2 => exact decode_encode_readOf .ownAddress2
  | wrOwnAddress2 v => exact decode_encode_writeOf v .ownAddress2
  | rdData => exact decode_encode_readOf .data
  | wrData v => exact decode_encode_writeOf v .data
  | rdStatus1 => exact decode_encode_readOf .status1
  | wrStatus1 v => exact decode_encode_writeOf v .status1
  | rdStatus2 => exact decode_encode_readOf .status2
  | wrStatus2 v => exact decode_encode_writeOf v .status2
  | rdClockControl => exact decode_encode_readOf .clockControl
  | wrClockControl v => exact decode_encode_writeOf v .clockControl
  | rdRiseTime => exact decode_encode_readOf .riseTime
  | wrRiseTime v => exact decode_encode_writeOf v .riseTime
  | rdNoiseFilter => exact decode_encode_readOf .noiseFilter
  | wrNoiseFilter v => exact decode_encode_writeOf v .noiseFilter
  | rdUnmapped off => exact (decode_rd off 0).trans (decodeRead_of_unmapped hi)
  | wrUnmapped off v => exact (decode_wr off v).trans (decodeWrite_of_unmapped hi v)
  | quiesce => rfl
  | reset => rfl

/-! ## From a word to its operation and back -/

theorem decode_of_rd {o : OpWord} (hk : kindOf o.selector = .rd) : decode o = decodeRead (offsetOf o.selector) := by
  simp [decode, hk]

theorem decode_of_wr {o : OpWord} (hk : kindOf o.selector = .wr) :
    decode o = decodeWrite (offsetOf o.selector) o.data := by
  simp [decode, hk]

theorem decode_of_quiesce {o : OpWord} (hk : kindOf o.selector = .quiesce) : decode o = .quiesce := by
  simp [decode, hk]

theorem decode_of_reset {o : OpWord} (hk : kindOf o.selector = .reset) : decode o = .reset := by
  simp [decode, hk]

/-- A read's word comes back without its data, which a read has none of (R80). -/
theorem encode_decode_of_rd {o : OpWord} (hk : kindOf o.selector = .rd) : encode (decode o) = ⟨o.selector, 0⟩ := by
  rw [decode_of_rd hk, encode_decodeRead, ← hk, selector_eq]

theorem encode_decode_of_wr {o : OpWord} (hk : kindOf o.selector = .wr) : encode (decode o) = o := by
  rw [decode_of_wr hk, encode_decodeWrite, ← hk, selector_eq]

theorem decode_wf (o : OpWord) : (decode o).wf = true := by
  cases hk : kindOf o.selector with
  | rd => rw [decode_of_rd hk]; exact decodeRead_wf _
  | wr => rw [decode_of_wr hk]; exact decodeWrite_wf _ _
  | quiesce => rw [decode_of_quiesce hk]; rfl
  | reset => rw [decode_of_reset hk]; rfl

/-- Settles O4: a write comes back whole, a read without its data, QUIESCE and RESET with their kind only. -/
theorem encodeInvertsDecode : Obligations.EncodeInvertsDecode := by
  intro o
  refine ⟨decode_wf o, ?_⟩
  cases hk : kindOf o.selector with
  | rd => simp [encode_decode_of_rd hk, hk]
  | wr => simp [encode_decode_of_wr hk, hk]
  | quiesce => rw [decode_of_quiesce hk]; exact ⟨by decide, by simp, by simp⟩
  | reset => rw [decode_of_reset hk]; exact ⟨by decide, by simp, by simp⟩

/-! ## The opcode table -/

/-- A row with mask 0xFFF covers the one selector it is written out for (R81). -/
theorem covers_of_exact {r : OpcodeRow} (hr : r ∈ exactRows) (sel : BitVec 12) :
    r.covers sel = true ↔ sel = r.pattern := by
  have hmask : r.mask = BitVec.allOnes 12 := (by decide : ∀ r ∈ exactRows, r.mask = BitVec.allOnes 12) r hr
  rw [OpcodeRow.covers, hmask, BitVec.and_allOnes, beq_iff_eq]

/-- No two exact rows are written out for one selector, so at most one covers it. -/
theorem exactRows_cover_at_most_once (sel : BitVec 12) :
    (exactRows.filter fun r => r.covers sel).length ≤ 1 := by
  have distinct : (exactRows.map OpcodeRow.pattern).Nodup := by decide
  have covered : ((exactRows.filter fun r => r.covers sel).map OpcodeRow.pattern).Sublist
      (exactRows.map OpcodeRow.pattern) := List.filter_sublist.map _
  have all : ∀ p ∈ (exactRows.filter fun r => r.covers sel).map OpcodeRow.pattern, p = sel := by
    simp only [List.mem_map, List.mem_filter]
    rintro p ⟨r, ⟨hr, hc⟩, rfl⟩
    exact ((covers_of_exact hr sel).mp hc).symm
  have nodup := covered.nodup distinct
  rw [List.eq_replicate_of_mem all, List.nodup_replicate] at nodup
  simpa using nodup

/-- Under the mask 0xC00 only the kind of a selector is left (R80, R83). -/
theorem and_kindMask (sel : BitVec 12) : sel &&& 0xC00 = (kindOf sel).code ++ 0#10 := by
  rw [code_kindOf]
  apply BitVec.eq_of_getLsbD_eq
  intro i hi
  rw [selector_bit]
  interval_cases i <;> simp

/-- The row with mask 0xC00 of each kind (R83). -/
def kindRow : OpKind → OpcodeRow
  | .rd => ⟨"RD_Unmapped", 0x000, 0xC00⟩
  | .wr => ⟨"WR_Unmapped", 0x400, 0xC00⟩
  | .quiesce => ⟨"QUIESCE", 0x800, 0xC00⟩
  | .reset => ⟨"RESET", 0xC00, 0xC00⟩

theorem filter_kindRows (sel : BitVec 12) : (kindRows.filter fun r => r.covers sel) = [kindRow (kindOf sel)] := by
  simp only [kindRows, List.filter, OpcodeRow.covers, and_kindMask]
  cases kindOf sel <;> decide

/-- The exact rows are reads and writes: a selector of QUIESCE or RESET is left to the row of its kind (R83). -/
theorem rowOf_of_event {sel : BitVec 12} (hk : kindOf sel = .quiesce ∨ kindOf sel = .reset) :
    rowOf sel = some (kindRow (kindOf sel)) := by
  have none : exactRows.find? (fun r => r.covers sel) = none := by
    rw [List.find?_eq_none]
    intro r hr hc
    have access : kindOf r.pattern ≠ .quiesce ∧ kindOf r.pattern ≠ .reset :=
      (by decide : ∀ r ∈ exactRows, kindOf r.pattern ≠ .quiesce ∧ kindOf r.pattern ≠ .reset) r hr
    rw [← (covers_of_exact hr sel).mp hc] at access
    exact hk.elim access.1 access.2
  rw [rowOf, none, ← List.head?_filter, filter_kindRows]
  rfl

/-- The rows of the operations' own words, one operation at a time (R83). -/
theorem matchesRow (i : Instr) : Laws.MatchesRow.Statement i := by
  cases i with
  | rdControl1 => exact Laws.MatchesRow.rdControl1
  | wrControl1 v => exact Laws.MatchesRow.wrControl1 v
  | rdControl2 => exact Laws.MatchesRow.rdControl2
  | wrControl2 v => exact Laws.MatchesRow.wrControl2 v
  | rdOwnAddress1 => exact Laws.MatchesRow.rdOwnAddress1
  | wrOwnAddress1 v => exact Laws.MatchesRow.wrOwnAddress1 v
  | rdOwnAddress2 => exact Laws.MatchesRow.rdOwnAddress2
  | wrOwnAddress2 v => exact Laws.MatchesRow.wrOwnAddress2 v
  | rdData => exact Laws.MatchesRow.rdData
  | wrData v => exact Laws.MatchesRow.wrData v
  | rdStatus1 => exact Laws.MatchesRow.rdStatus1
  | wrStatus1 v => exact Laws.MatchesRow.wrStatus1 v
  | rdStatus2 => exact Laws.MatchesRow.rdStatus2
  | wrStatus2 v => exact Laws.MatchesRow.wrStatus2 v
  | rdClockControl => exact Laws.MatchesRow.rdClockControl
  | wrClockControl v => exact Laws.MatchesRow.wrClockControl v
  | rdRiseTime => exact Laws.MatchesRow.rdRiseTime
  | wrRiseTime v => exact Laws.MatchesRow.wrRiseTime v
  | rdNoiseFilter => exact Laws.MatchesRow.rdNoiseFilter
  | wrNoiseFilter v => exact Laws.MatchesRow.wrNoiseFilter v
  | rdUnmapped off => exact Laws.MatchesRow.rdUnmapped off
  | wrUnmapped off v => exact Laws.MatchesRow.wrUnmapped off v
  | quiesce => exact Laws.MatchesRow.quiesce
  | reset => exact Laws.MatchesRow.reset

/-- Settles O5: a read or write has the selector of the operation it decodes to; QUIESCE and RESET have the row of their
kind. -/
theorem decodeFollowsTheOpcodeTable : Obligations.DecodeFollowsTheOpcodeTable := by
  intro o
  refine ⟨exactRows_cover_at_most_once _, by rw [filter_kindRows]; rfl, ?_⟩
  have row := matchesRow (decode o) (decode_wf o)
  cases hk : kindOf o.selector with
  | rd => rwa [encode_decode_of_rd hk] at row
  | wr => rwa [encode_decode_of_wr hk] at row
  | quiesce => rw [rowOf_of_event (.inl hk), decode_of_quiesce hk, hk]; rfl
  | reset => rw [rowOf_of_event (.inr hk), decode_of_reset hk, hk]; rfl

/-- Settles O6: the nine words one by one. -/
theorem writtenOutWordsDecode : Obligations.WrittenOutWordsDecode := by
  refine ⟨?_, ?_, ?_, ?_, ?_, ?_, ?_, ?_, ?_⟩ <;> decide

end Sys2Proof
end

section
/-! PROOFS. The reads of the control and status registers, the clears they make, and the stored-only registers (R100 to
R117). -/

namespace Sys2Proof.Machine

/-! ## Values of reads, bit by bit -/

theorem control1Value_table (s : State) (j : Nat) : (control1Value s).getLsbD j =
    (if j = 10 then s.acknowledgeEnable else if j = 0 then s.periEn else false) := by
  rw [control1Value_bit]
  split_ifs <;> simp [*]

theorem control2Value_table (s : State) (j : Nat) : (control2Value s).getLsbD j =
    (if j = 12 then s.dmaLastTransfer else if j = 11 then s.dmaEnable
     else if j = 10 then s.bufferInterruptEnable else if j = 9 then s.eventInterruptEnable
     else if j = 8 then s.errorInterruptEnable else if j < 6 then s.freq.getLsbD j else false) := by
  rw [control2Value_bit]
  have beyond : 6 ≤ j → s.freq.getLsbD j = false := BitVec.getLsbD_of_ge s.freq j
  split_ifs with h12 h11 h10 h9 h8 h6
  · simp [h12]
  · simp [h11]
  · simp [h10]
  · simp [h9]
  · simp [h8]
  · have h32 : j < 32 := by omega
    simp [h12, h11, h10, h9, h8, h32]
  · simp [h12, h11, h10, h9, h8, beyond (by omega)]

theorem status1Value_table (s : State) (j : Nat) : (status1Value s).getLsbD j =
    (if j = 10 then s.acknowledgeFailed else if j = 7 then s.dataRegisterEmpty
     else if j = 6 then decide (s.inQ ≠ []) else if j = 2 then s.byteTransferFinished
     else if j = 1 then s.addressSentOrMatched else if j = 0 then s.startBit else false) := by
  rw [status1Value_bit, dataRegisterNotEmpty_eq]
  split_ifs <;> simp [*]

theorem status2Value_table (s : State) (j : Nat) : (status2Value s).getLsbD j =
    (if j = 2 then s.transmitterReceiver else if j = 0 then s.masterSlave else false) := by
  rw [status2Value_bit]
  split_ifs <;> simp [*]

/-- Settles O7: both reads return the register's value, whose bits are the stored fields. -/
theorem controlReadsReturnTheStoredFields : Obligations.ControlReadsReturnTheStoredFields := fun s =>
  ⟨⟨control1Value s, rfl, control1Value_table s⟩, ⟨control2Value s, rfl, control2Value_table s⟩⟩

/-! ## Status1 and Status2 -/

theorem exec_rdStatus1 (s : State) : exec .rdStatus1 s =
    .next (returnValue (status1Value s) (if s.params.afReadClears then clearAcknowledgeFailed s else s)) := rfl

theorem exec_wrStatus1 (v : Word) (s : State) :
    exec (.wrStatus1 v) s = .next (if v[10] then s else clearAcknowledgeFailed s) := rfl

theorem exec_rdStatus2 (s : State) :
    exec .rdStatus2 s = .next (returnValue (status2Value s) (clearAddressSent s)) := rfl

theorem clearAcknowledgeFailed_of_set {s : State} (h : s.acknowledgeFailed = true) :
    clearAcknowledgeFailed s = recompute { s with acknowledgeFailed := false } := if_pos h

theorem clearAcknowledgeFailed_of_clear {s : State} (h : s.acknowledgeFailed = false) :
    clearAcknowledgeFailed s = s := if_neg (by simp [h])

/-- Settles O8: the value is taken before the clear, and the clear needs the parameter and the flag. -/
theorem status1ReadReturnsFlagsThenClears : Obligations.Status1ReadReturnsFlagsThenClears := by
  intro s
  refine ⟨status1Value s, ?_, status1Value_table s⟩
  rw [exec_rdStatus1, returnValue_eq, ite_and]
  rfl

/-- Settles O9: bit 10 of the value and the flag decide between the clear and nothing. -/
theorem status1WriteClearsAcknowledgeFailedOnly : Obligations.Status1WriteClearsAcknowledgeFailedOnly := by
  refine fun s v => ⟨fun hv hf => ?_, fun h => ?_⟩
  · rw [exec_wrStatus1, hv, if_neg (by simp), clearAcknowledgeFailed_of_set hf]
  · rw [exec_wrStatus1]
    obtain hv | hf := h
    · rw [if_pos hv]
    · rw [clearAcknowledgeFailed_of_clear hf, ite_self]

/-- Settles O10: the read returns the value and makes the clear; the write's arm is the state itself. -/
theorem status2ReadClearsAddressSent : Obligations.Status2ReadClearsAddressSent := fun s =>
  ⟨⟨status2Value s, exec_rdStatus2 s, status2Value_table s⟩, fun _ => rfl⟩

/-! ## Stored-only registers and values at power-on -/

/-- Settles O11: every arm is the one update it names. -/
theorem storedOnlyRegistersStoreAndReadBack : Obligations.StoredOnlyRegistersStoreAndReadBack := fun _ _ =>
  ⟨rfl, rfl, rfl, rfl, rfl, rfl, rfl, rfl, rfl, rfl⟩

/-- Settles O50: the fields at power-on are literals, so each read evaluates. -/
theorem registersReadTheirResetValues : Obligations.RegistersReadTheirResetValues :=
  ⟨rfl, rfl, rfl, rfl, rfl, rfl, rfl, rfl, rfl, rfl⟩

end Sys2Proof.Machine
end

section
/-! PROOFS. What a recompute and a write of Control2 do to the lines, to LineLog and to Pending (R103, R170, R180,
R181). -/

namespace Sys2Proof.Machine

/-! ## Recompute -/

/-- The entries a recompute makes in LineLog: Event first, then Error, each only on a change (R170, R171). -/
def interruptEntries (s : State) : List (Line × Bool) :=
  (if s.lines.eventInterrupt = eventLevel s then [] else [(.eventInterrupt, eventLevel s)])
    ++ (if s.lines.errorInterrupt = errorLevel s then [] else [(.errorInterrupt, errorLevel s)])

theorem recompute_lineLog_eq (s : State) : (recompute s).lineLog = s.lineLog ++ interruptEntries s := by
  rw [recompute_lineLog, List.append_assoc, interruptEntries]

theorem interruptEntries_line {s : State} {e : Line × Bool} (he : e ∈ interruptEntries s) :
    e.1 = .eventInterrupt ∨ e.1 = .errorInterrupt := by
  rw [interruptEntries, List.mem_append] at he
  obtain he | he := he <;> split at he <;> simp_all

/-- Settles O39: the two levels are the source's functions, and the entries are the two drives'. -/
theorem recomputeIsTheSourcesFunction : Obligations.RecomputeIsTheSourcesFunction := by
  intro s event error hevent herror
  have event_eq : eventLevel s = event := by rw [hevent, eventLevel, dataRegisterNotEmpty_eq]
  have error_eq : errorLevel s = error := by rw [herror, errorLevel]
  rw [← event_eq, ← error_eq]
  rfl

/-- A recompute with both lines at their levels changes nothing (R171). -/
theorem recompute_same {s : State} (hevent : s.lines.eventInterrupt = eventLevel s)
    (herror : s.lines.errorInterrupt = errorLevel s) : recompute s = s := by
  rw [recompute, drive_same .eventInterrupt _ s hevent, drive_same .errorInterrupt _ s herror]

/-- Settles O40: after one recompute both lines are at their levels. -/
theorem recomputeIsIdempotent : Obligations.RecomputeIsIdempotent := fun s => by
  apply recompute_same <;> simp

/-! ## The interrupt part of a Control2 write -/

theorem enableFalls_iff (s : State) (v : Word) : enableFalls s v = true ↔
    (s.errorInterruptEnable = true ∧ v[8] = false) ∨ (s.eventInterruptEnable = true ∧ v[9] = false) ∨
      (s.bufferInterruptEnable = true ∧ v[10] = false) := by
  simp [enableFalls, or_assoc]

theorem enableRises_iff (s : State) (v : Word) : enableRises s v = true ↔
    (s.errorInterruptEnable = false ∧ v[8] = true) ∨ (s.eventInterruptEnable = false ∧ v[9] = true) ∨
      (s.bufferInterruptEnable = false ∧ v[10] = true) := by
  simp [enableRises, or_assoc]

theorem enableFalls_eq_false {s : State} {v : Word} (herror : s.errorInterruptEnable = true → v[8] = true)
    (hevent : s.eventInterruptEnable = true → v[9] = true) (hbuffer : s.bufferInterruptEnable = true → v[10] = true) :
    enableFalls s v = false := by
  rw [← Bool.not_eq_true, enableFalls_iff]
  rintro (⟨he, hv⟩ | ⟨he, hv⟩ | ⟨he, hv⟩)
  · simp [herror he] at hv
  · simp [hevent he] at hv
  · simp [hbuffer he] at hv

@[simp] theorem enablePolicy_pending (falls rises : Bool) (s : State) :
    (enablePolicy falls rises s).pending = s.pending ++ if rises then [.recompute] else [] := by
  cases falls <;> cases rises <;> simp [enablePolicy]

theorem enablePolicy_lines (falls rises : Bool) (s : State) :
    (enablePolicy falls rises s).lines = if falls then (recompute s).lines else s.lines := by
  cases falls <;> cases rises <;> rfl

theorem enablePolicy_lineLog (falls rises : Bool) (s : State) :
    (enablePolicy falls rises s).lineLog = s.lineLog ++ if falls then interruptEntries s else [] := by
  cases falls <;> cases rises <;> simp [enablePolicy, recompute_lineLog_eq]

/-! ## The DMA part -/

/-- "If a line is not already asserted, deassert-then-assert it" is one drive: of the two, at most the second is a
change (R171, R180). -/
theorem raiseEdge_eq_drive (l : Line) (s : State) : raiseEdge l s = drive l true s := by
  by_cases h : levelOf s.lines l = true
  · rw [raiseEdge, if_pos h, drive_same l true s h]
  · rw [raiseEdge, if_neg h, drive_same l false s (by simpa using h)]

/-- DmaEnable's edges drive both DMA lines to its new value, Transmit first (R180, R181). -/
theorem dmaPolicy_eq (old new : Bool) (s : State) :
    dmaPolicy old new s = if old = new then s else drive .dmaReceive new (drive .dmaTransmit new s) := by
  cases old <;> cases new <;> simp [dmaPolicy, dmaEnableRise, dmaEnableFall, raiseEdge_eq_drive]

@[simp] theorem dmaPolicy_pending (old new : Bool) (s : State) : (dmaPolicy old new s).pending = s.pending := by
  obtain ⟨ls, log, h⟩ := dmaPolicy_shape old new s
  rw [h]

/-! ## A whole write of Control2 -/

theorem exec_wrControl2 (v : Word) (s : State) : exec (.wrControl2 v) s = .next (dmaPolicy s.dmaEnable v[11]
    (enablePolicy (enableFalls s v) (enableRises s v) (storeControl2 v s))) := rfl

/-- The value Control2 reads as when the six fields of v are stored (R102, R103). -/
theorem control2Value_of_stored {v : Word} {s : State} (hstored : ∃ u ls log p,
    s = { storeControl2 v u with lines := ls, lineLog := log, pending := p }) :
    control2Value s = v &&& 0x00001F3F := by
  obtain ⟨u, ls, log, p, rfl⟩ := hstored
  apply BitVec.eq_of_getLsbD_eq
  intro j hj
  rw [control2Value_table, BitVec.getLsbD_and]
  simp only [storeControl2, freqOf, dmaLastTransferOf_eq, dmaEnableOf_eq, bufferInterruptEnableOf_eq,
    eventInterruptEnableOf_eq, errorInterruptEnableOf_eq]
  interval_cases j <;> simp

/-- Settles O13: the policies after the store leave the six fields alone. -/
theorem control2WriteStoresItsSixFields : Obligations.Control2WriteStoresItsSixFields := by
  intro s v
  obtain ⟨ls, log, p, h⟩ := execWrControl2_shape v s
  refine ⟨ls, log, p, h, fun t ht => ?_⟩
  have stored := Host.Outcome.next.inj (h.symm.trans ht)
  show Host.Outcome.next (returnValue (control2Value t) t) = _
  rw [control2Value_of_stored ⟨s, ls, log, p, stored.symm⟩]
  rfl

theorem wrControl2_pending {v : Word} {s t : State} (h : exec (.wrControl2 v) s = .next t) :
    t.pending = s.pending ++ if enableRises s v then [.recompute] else [] := by
  cases h
  rw [dmaPolicy_pending, enablePolicy_pending]
  rfl

/-- With no enable falling the interrupt lines keep their levels inside the write, stale or not (R103). -/
theorem wrControl2_interrupts_of_no_fall {v : Word} {s t : State} (hf : enableFalls s v = false)
    (h : exec (.wrControl2 v) s = .next t) :
    t.lines.eventInterrupt = s.lines.eventInterrupt ∧ t.lines.errorInterrupt = s.lines.errorInterrupt := by
  rw [exec_wrControl2, hf] at h
  cases h
  have kept := enablePolicy_lines false (enableRises s v) (storeControl2 v s)
  rw [(dmaPolicy_interrupts _ _ _).1, (dmaPolicy_interrupts _ _ _).2, kept]
  exact ⟨rfl, rfl⟩

/-- With an enable falling both lines are at the levels of the new fields (R103, R172). -/
theorem wrControl2_interrupts_of_fall {v : Word} {s t : State} (hf : enableFalls s v = true)
    (h : exec (.wrControl2 v) s = .next t) :
    t.lines.eventInterrupt = eventLevel t ∧ t.lines.errorInterrupt = errorLevel t := by
  obtain ⟨ls, log, p, shape⟩ := execWrControl2_shape v s
  have ht : t = _ := Host.Outcome.next.inj (h.symm.trans shape)
  have event : eventLevel t = eventLevel (storeControl2 v s) := by rw [ht]; rfl
  have error : errorLevel t = errorLevel (storeControl2 v s) := by rw [ht]; rfl
  rw [event, error]
  rw [exec_wrControl2, hf] at h
  cases h
  have moved := enablePolicy_lines true (enableRises s v) (storeControl2 v s)
  rw [(dmaPolicy_interrupts _ _ _).1, (dmaPolicy_interrupts _ _ _).2, moved]
  exact ⟨rfl, rfl⟩

/-- Settles O14: only a rise submits, and only a fall recomputes. -/
theorem armingAnEnableIsDeferred : Obligations.ArmingAnEnableIsDeferred := by
  intro s v t h
  refine ⟨?_, fun herror hevent hbuffer =>
    wrControl2_interrupts_of_no_fall (enableFalls_eq_false herror hevent hbuffer) h⟩
  simp only [wrControl2_pending h, enableRises_iff]

/-- Settles O15: a fall recomputes inside the write, and an Event or Error whose own enable is cleared is low. -/
theorem disarmingAnEnableActsBeforeTheWriteReturns : Obligations.DisarmingAnEnableActsBeforeTheWriteReturns := by
  intro s v t h
  have moved : enableFalls s v = true → _ := fun hf => wrControl2_interrupts_of_fall hf h
  rw [enableFalls_iff] at moved
  obtain ⟨ls, log, p, shape⟩ := execWrControl2_shape v s
  have ht : t = _ := Host.Outcome.next.inj (h.symm.trans shape)
  refine ⟨moved, fun he hv => ?_, fun he hv => ?_⟩
  · have disabled : t.eventInterruptEnable = false := by rw [ht]; exact hv
    rw [(moved (.inr (.inl ⟨he, hv⟩))).1, eventLevel, disabled, Bool.false_and]
  · have disabled : t.errorInterruptEnable = false := by rw [ht]; exact hv
    rw [(moved (.inl ⟨he, hv⟩)).2, errorLevel, disabled, Bool.false_and]

/-- The entries the DMA part makes when DmaEnable takes the value b: Transmit first, each only on a change. -/
theorem driveDmaLines_lineLog (b : Bool) (s : State) : (drive .dmaReceive b (drive .dmaTransmit b s)).lineLog =
    s.lineLog ++ (if s.lines.dmaTransmit = b then [] else [(.dmaTransmit, b)])
      ++ (if s.lines.dmaReceive = b then [] else [(.dmaReceive, b)]) := rfl

/-- Settles O16: the interrupt part comes first and moves no DMA line; the DMA part is nothing or two drives. -/
theorem dmaEnableDrivesBothRequestLines : Obligations.DmaEnableDrivesBothRequestLines := by
  intro s v
  obtain ⟨transmit, receive⟩ : _ = s.lines.dmaTransmit ∧ _ = s.lines.dmaReceive :=
    enablePolicy_dmaLines (enableFalls s v) (enableRises s v) (storeControl2 v s)
  have log : _ = s.lineLog ++ _ := enablePolicy_lineLog (enableFalls s v) (enableRises s v) (storeControl2 v s)
  refine ⟨_, if enableFalls s v then interruptEntries (storeControl2 v s) else [], exec_wrControl2 v s,
    fun e he => ?_, fun herror hevent hbuffer => ?_, fun hold hnew => ?_, fun hold hnew => ?_, fun hsame => ?_⟩
  · split at he
    · exact interruptEntries_line he
    · simp at he
  · have hf := enableFalls_eq_false herror hevent hbuffer
    exact ⟨by simp [hf], wrControl2_interrupts_of_no_fall hf (exec_wrControl2 v s)⟩
  · rw [dmaPolicy_eq, hold, hnew, if_neg (by decide), driveDmaLines_lineLog, log, transmit, receive]
    exact ⟨rfl, rfl, rfl⟩
  · rw [dmaPolicy_eq, hold, hnew, if_neg (by decide), driveDmaLines_lineLog, log, transmit, receive]
    refine ⟨rfl, rfl, ?_⟩
    cases s.lines.dmaTransmit <;> cases s.lines.dmaReceive <;> rfl
  · rw [dmaPolicy_eq, if_pos hsame]
    exact ⟨transmit, receive, log⟩

end Sys2Proof.Machine
end

section
/-! PROOFS. What QUIESCE does: the deferred actions one by one and all together (R191, R192, R182). -/

namespace Sys2Proof.Machine

/-! ## Pending while actions run -/

/-- An action neither reads nor changes Pending (R191). -/
theorem runAction_withPending (a : Action) (p : List Action) (s : State) :
    runAction a { s with pending := p } = { runAction a s with pending := p } := by
  cases a <;> rfl

/-- The loop of R191 runs the actions in order, and none of them sees the others. -/
theorem runPending_eq_foldl (as : List Action) (s : State) :
    runPending as s = as.foldl (fun u a => runAction a u) { s with pending := [] } := by
  induction as generalizing s with
  | nil => rfl
  | cons a rest ih =>
    have first : runAction a { s with pending := [] } = { runAction a { s with pending := rest } with pending := [] } :=
      runAction_withPending a [] { s with pending := rest }
    rw [runPending_cons, ih, List.foldl_cons, first]

/-! ## The flags -/

theorem runAction_dataRegisterEmpty (a : Action) (s : State) :
    (runAction a s).dataRegisterEmpty = (s.dataRegisterEmpty || .dataWriteDone == a) := by
  cases a <;> simp [runAction]

theorem runAction_byteTransferFinished (a : Action) (s : State) :
    (runAction a s).byteTransferFinished = (s.byteTransferFinished || .dataWriteDone == a) := by
  cases a <;> simp [runAction]

theorem runPending_dataRegisterEmpty (as : List Action) (s : State) :
    (runPending as s).dataRegisterEmpty = (s.dataRegisterEmpty || as.contains .dataWriteDone) := by
  induction as generalizing s with
  | nil => simp [runPending]
  | cons a rest ih => rw [runPending_cons, ih, runAction_dataRegisterEmpty, List.contains_cons, Bool.or_assoc]

theorem runPending_byteTransferFinished (as : List Action) (s : State) :
    (runPending as s).byteTransferFinished = (s.byteTransferFinished || as.contains .dataWriteDone) := by
  induction as generalizing s with
  | nil => simp [runPending]
  | cons a rest ih => rw [runPending_cons, ih, runAction_byteTransferFinished, List.contains_cons, Bool.or_assoc]

/-- QUIESCE, field by field but for the lines and their log (R191, R192). -/
theorem runPending_fields (as : List Action) (s : State) : ∃ ls log, runPending as s = { s with
    dataRegisterEmpty := s.dataRegisterEmpty || as.contains .dataWriteDone
    byteTransferFinished := s.byteTransferFinished || as.contains .dataWriteDone
    lines := ls, lineLog := log, pending := [] } := by
  obtain ⟨f, g, ls, log, h⟩ := runPending_shape as s
  have hf := runPending_dataRegisterEmpty as s
  have hg := runPending_byteTransferFinished as s
  rw [h] at hf hg
  exact ⟨ls, log, by rw [h, ← hf, ← hg]⟩

/-- Settles O46: QUIESCE is the run of what is pending. -/
theorem quiesceChangesOnlyFlagsAndLines : Obligations.QuiesceChangesOnlyFlagsAndLines := by
  intro s
  obtain ⟨ls, log, h⟩ := runPending_fields s.pending s
  exact ⟨ls, log, by rw [exec_quiesce, h]⟩

/-! ## The interrupt lines -/

/-- Both interrupt lines have the value of the source's function of the present fields (R170). -/
def InterruptsCurrent (s : State) : Prop :=
  s.lines.eventInterrupt = eventLevel s ∧ s.lines.errorInterrupt = errorLevel s

theorem interruptsCurrent_recompute (s : State) : InterruptsCurrent (recompute s) := ⟨rfl, rfl⟩

/-- A pulse moves no interrupt line and no field; the two other actions end with a recompute (R192). -/
theorem interruptsCurrent_runAction {a : Action} {s : State}
    (h : a = .recompute ∨ a = .dataWriteDone ∨ InterruptsCurrent s) : InterruptsCurrent (runAction a s) := by
  cases a with
  | recompute => exact interruptsCurrent_recompute _
  | dataWriteDone => exact interruptsCurrent_recompute _
  | dmaRxPulse =>
    obtain h | h | h := h
    · cases h
    · cases h
    · exact h

theorem interruptsCurrent_runPending {as : List Action} {s : State}
    (h : .recompute ∈ as ∨ .dataWriteDone ∈ as ∨ InterruptsCurrent s) : InterruptsCurrent (runPending as s) := by
  induction as generalizing s with
  | nil => exact (by simpa using h : InterruptsCurrent s)
  | cons a rest ih =>
    rw [runPending_cons]
    apply ih
    rw [List.mem_cons, List.mem_cons] at h
    obtain (h | h) | (h | h) | h := h
    · exact .inr (.inr (interruptsCurrent_runAction (.inl h.symm)))
    · exact .inl h
    · exact .inr (.inr (interruptsCurrent_runAction (.inr (.inl h.symm))))
    · exact .inr (.inl h)
    · exact .inr (.inr (interruptsCurrent_runAction (.inr (.inr h))))

/-- Settles O47: one action that recomputes makes the lines current, and no later action undoes it. -/
theorem quiesceBringsInterruptLinesUpToDate : Obligations.QuiesceBringsInterruptLinesUpToDate := by
  intro s t hp h
  cases h
  exact interruptsCurrent_runPending (hp.imp_right .inl)

/-! ## The DMA lines -/

theorem runAction_dmaReceive (a : Action) (s : State) :
    (runAction a s).lines.dmaReceive = (s.lines.dmaReceive || .dmaRxPulse == a) := by
  cases a <;> simp [runAction]

theorem runPending_dmaReceive (as : List Action) (s : State) :
    (runPending as s).lines.dmaReceive = (s.lines.dmaReceive || as.contains .dmaRxPulse) := by
  induction as generalizing s with
  | nil => simp [runPending]
  | cons a rest ih => rw [runPending_cons, ih, runAction_dmaReceive, List.contains_cons, Bool.or_assoc]

theorem runAction_dmaTransmit (a : Action) (s : State) :
    (runAction a s).lines.dmaTransmit = s.lines.dmaTransmit := by
  cases a <;> rfl

theorem runPending_dmaTransmit (as : List Action) (s : State) :
    (runPending as s).lines.dmaTransmit = s.lines.dmaTransmit := by
  induction as generalizing s with
  | nil => rfl
  | cons a rest ih => rw [runPending_cons, ih, runAction_dmaTransmit]

/-- A receive pulse, edge by edge (R182). -/
theorem runAction_dmaRxPulse (s : State) : runAction .dmaRxPulse s = { s with
    lines := { s.lines with dmaReceive := true }
    lineLog := s.lineLog ++ (if s.lines.dmaReceive then [(.dmaReceive, false)] else [])
      ++ [(.dmaReceive, true)] } := by
  cases hr : s.lines.dmaReceive <;> simp [runAction, drive, hr]

/-- Settles O45: with one action pending QUIESCE is that action, with none it is nothing. -/
theorem eachDeferredActionHasItsEffect : Obligations.EachDeferredActionHasItsEffect := by
  intro s
  refine ⟨fun hp => ?_, fun hp => exec_quiesce_singleton hp, fun hp => exec_quiesce_singleton hp, fun hp => ?_⟩
  · rw [exec_quiesce, hp, runPending_nil hp]
  · rw [exec_quiesce_singleton hp, runAction_dmaRxPulse]

/-! ## After a reset -/

/-- `Reset()` field by field: the power-on values, the falls logged, Pending and the inputs kept (R240). -/
theorem resetBlock_eq (s : State) : resetBlock s = { State.reset with
    pending := s.pending
    lineLog := s.lineLog ++ (if s.lines.eventInterrupt then [(.eventInterrupt, false)] else [])
      ++ (if s.lines.errorInterrupt then [(.errorInterrupt, false)] else [])
      ++ (if s.lines.dmaTransmit then [(.dmaTransmit, false)] else [])
      ++ (if s.lines.dmaReceive then [(.dmaReceive, false)] else [])
    slaveLog := s.slaveLog, diagLog := s.diagLog, readData := s.readData
    requests := s.requests, params := s.params, answers := s.answers, answerCount := s.answerCount } := by
  have entry : ∀ (l : Line) (b : Bool), (if b = false then [] else [(l, false)]) = if b then [(l, false)] else [] := by
    intro l b; cases b <;> rfl
  simp only [← entry]
  rfl

/-- Settles O49: RESET is `Reset()`. -/
theorem resetRestoresThePowerOnValues : Obligations.ResetRestoresThePowerOnValues := fun s =>
  congrArg Host.Outcome.next (resetBlock_eq s)

/-- With every other flag false and nothing queued, Status1 reads 0x84 or 0 as both flags of a data write are true or
false (R27, R108). -/
theorem status1Value_of_dataWriteFlags {t : State} {b : Bool} (failed : t.acknowledgeFailed = false)
    (sent : t.addressSentOrMatched = false) (start : t.startBit = false) (queue : t.inQ = [])
    (empty : t.dataRegisterEmpty = b) (finished : t.byteTransferFinished = b) :
    status1Value t = if b then 0x00000084 else 0x00000000 := by
  simp only [status1Value, dataRegisterNotEmpty, failed, sent, start, queue, empty, finished]
  cases b <;> rfl

/-- Settles O51: after `Reset()` the lines are current and the enables false; the pending actions then set what they set
from any state. -/
theorem actionsPendingAtAResetStillRun : Obligations.ActionsPendingAtAResetStillRun := by
  intro s
  refine ⟨runPending s.pending (resetBlock s), rfl, ?_⟩
  have current : InterruptsCurrent (runPending s.pending (resetBlock s)) :=
    interruptsCurrent_runPending (.inr (.inr ⟨rfl, rfl⟩))
  have receive := runPending_dmaReceive s.pending (resetBlock s)
  have transmit := runPending_dmaTransmit s.pending (resetBlock s)
  obtain ⟨ls, log, h⟩ := runPending_fields s.pending (resetBlock s)
  have value : status1Value (runPending s.pending (resetBlock s))
      = if s.pending.contains .dataWriteDone then 0x00000084 else 0x00000000 := by
    rw [h]
    exact status1Value_of_dataWriteFlags rfl rfl rfl rfl (Bool.false_or _) (Bool.false_or _)
  rw [h] at current receive transmit value ⊢
  refine ⟨fun hd => ?_, fun hd => ?_, current.1, current.2, ?_, transmit, rfl, rfl⟩
  · rw [value, if_pos (List.contains_iff_mem.mpr hd)]
  · rw [value, if_neg (by rwa [List.contains_iff_mem])]
  · rw [receive, ← List.contains_iff_mem]
    rfl

end Sys2Proof.Machine
end

section
/-! PROOFS. The procedures of a write of Control1, START, STOP and the store, one at a time and in one write (R101, R141,
R142, R150). -/

namespace Sys2Proof.Machine

/-! ## Which part runs -/

theorem exec_wrControl1_of_reset {v : Word} (hr : v[15] = true) (s : State) :
    exec (.wrControl1 v) s = .next (resetBlock s) := if_pos hr

/-- The state STOP leaves to START: the two stored bits first, STOP if the write carries it (R101). -/
def stoppedBy (v : Word) (s : State) : State := if v[9] then stop (storeControl1 v s) else storeControl1 v s

/-- The end of a write of Control1: peripheral-disable unless PeriEn is 1 (R101). -/
def disabledBy (v : Word) (s : State) : State := if v[0] then s else peripheralDisable s

theorem exec_wrControl1_of_start {v : Word} (hr : v[15] = false) (hstart : v[8] = true) (s : State) :
    exec (.wrControl1 v) s = andThen (start (stoppedBy v s)) fun u => .next (disabledBy v u) := by
  show execWrControl1 v s = _
  simp only [execWrControl1, softwareResetOf_eq, hr, startGenOf_eq, hstart, if_true]
  rfl

theorem exec_wrControl1_of_no_start {v : Word} (hr : v[15] = false) (hstart : v[8] = false) (s : State) :
    exec (.wrControl1 v) s = .next (disabledBy v (stoppedBy v s)) := by
  show execWrControl1 v s = _
  simp only [execWrControl1, softwareResetOf_eq, hr, startGenOf_eq, hstart]
  rfl

theorem stoppedBy_of_stop {v : Word} (hstop : v[9] = true) (s : State) :
    stoppedBy v s = stop (storeControl1 v s) := if_pos hstop

theorem stoppedBy_of_no_stop {v : Word} (hstop : v[9] = false) (s : State) : stoppedBy v s = storeControl1 v s :=
  if_neg (by simp [hstop])

theorem disabledBy_of_enabled {v : Word} (hperi : v[0] = true) (s : State) : disabledBy v s = s := if_pos hperi

theorem disabledBy_of_disabled {v : Word} (hperi : v[0] = false) (s : State) :
    disabledBy v s = peripheralDisable s := if_neg (by simp [hperi])

theorem storeControl1_of_peri {v : Word} {peri : Bool} (hperi : v[0] = peri) (s : State) :
    storeControl1 v s = { s with acknowledgeEnable := v[10], periEn := peri } := by
  subst hperi; rfl

/-! ## START -/

theorem start_of_awaitingAddress {s : State} (hs : s.txnState = .awaitingAddress) : start s = .next s := by
  simp only [start, hs]

theorem start_of_elsewhere {s : State} (hs : s.txnState ≠ .awaitingAddress) :
    start s = andThen (if s.outBuf.isEmpty then .next s else flush s) fun u => .next (beginAddressPhase u) := by
  cases h : s.txnState with
  | awaitingAddress => exact absurd h hs
  | _ => simp only [start, h]

theorem start_of_no_flush {s : State} (hs : s.txnState ≠ .awaitingAddress) (hb : s.outBuf = []) :
    start s = .next (beginAddressPhase s) := by
  rw [start_of_elsewhere hs, hb]
  rfl

theorem start_of_flush {s : State} {a : SlaveAddr} (hs : s.txnState ≠ .awaitingAddress) (hb : s.outBuf ≠ [])
    (ha : s.sel = some a) : start s = .next (beginAddressPhase (flushTo a s)) := by
  simp [start_of_elsewhere hs, hb, flush, ha]

/-- Settles O20: the write is the store, then a START that flushes if it must. -/
theorem startOpensAnAddressPhase : Obligations.StartOpensAnAddressPhase := by
  intro s v hr hstop hstart hperi hs
  have run := exec_wrControl1_of_start hr hstart s
  rw [stoppedBy_of_no_stop hstop] at run
  simp only [disabledBy_of_enabled hperi] at run
  refine ⟨fun hb => ?_, fun a hb ha => ?_⟩
  · rw [run, start_of_no_flush (s := storeControl1 v s) hs hb, storeControl1_of_peri hperi]
    rfl
  · rw [run, start_of_flush (s := storeControl1 v s) hs hb ha, storeControl1_of_peri hperi]
    rfl

/-- Settles O21: in AwaitingAddress nothing follows the store. -/
theorem startInAwaitingAddressIsANoOp : Obligations.StartInAwaitingAddressIsANoOp := by
  intro s v hr hstop hstart hperi hs
  rw [exec_wrControl1_of_start hr hstart, stoppedBy_of_no_stop hstop,
    start_of_awaitingAddress (s := storeControl1 v s) hs, andThen_next, disabledBy_of_enabled hperi,
    storeControl1_of_peri hperi]

/-! ## STOP and the store -/

/-- Settles O22: the write is the store, then a STOP that flushes if it can. -/
theorem stopEndsTheTransaction : Obligations.StopEndsTheTransaction := by
  intro s v hr hstop hstart hperi
  rw [exec_wrControl1_of_no_start hr hstart, disabledBy_of_enabled hperi, stoppedBy_of_stop hstop]
  refine ⟨fun h => ?_, fun a hb ha => ?_⟩
  · rw [stop_of_no_flush (s := storeControl1 v s) h, storeControl1_of_peri hperi]
  · rw [stop_of_flush (s := storeControl1 v s) ha hb, storeControl1_of_peri hperi]
    rfl

/-- Settles O23: without a trigger the write is the store and the peripheral-disable, if any. -/
theorem peripheralDisableClearsSixFlags : Obligations.PeripheralDisableClearsSixFlags := by
  intro s v hr hstop hstart
  rw [exec_wrControl1_of_no_start hr hstart, stoppedBy_of_no_stop hstop]
  refine ⟨fun hperi => ?_, fun hperi => ?_⟩
  · rw [disabledBy_of_disabled hperi, storeControl1_of_peri hperi]
    rfl
  · rw [disabledBy_of_enabled hperi, storeControl1_of_peri hperi]

/-! ## A combined write as a sequence -/

/-- The two stored bits take the given values (R101). -/
def storeBits (ack peri : Bool) (s : State) : State := { s with acknowledgeEnable := ack, periEn := peri }

theorem storeControl1_eq (v : Word) : storeControl1 v = storeBits v[10] v[0] := rfl

/-- STOP neither reads nor changes the two stored bits (R142). -/
theorem stop_storeBits (ack peri : Bool) (s : State) : stop (storeBits ack peri s) = storeBits ack peri (stop s) := by
  obtain ⟨-, h⟩ | ⟨a, ha, hb, -⟩ := stopFlush_cases s
  · rw [stop_of_no_flush h, stop_of_no_flush (s := storeBits ack peri s) h]
    rfl
  · rw [stop_of_flush ha hb, stop_of_flush (s := storeBits ack peri s) ha hb]
    rfl

/-- START neither reads nor changes the two stored bits (R141). -/
theorem start_storeBits (ack peri : Bool) (s : State) :
    start (storeBits ack peri s) = andThen (start s) fun u => .next (storeBits ack peri u) := by
  by_cases hs : s.txnState = .awaitingAddress
  · rw [start_of_awaitingAddress hs, start_of_awaitingAddress (s := storeBits ack peri s) hs]
    rfl
  · by_cases hb : s.outBuf = []
    · rw [start_of_no_flush hs hb, start_of_no_flush (s := storeBits ack peri s) hs hb]
      rfl
    · cases ha : s.sel with
      | none =>
        rw [(start_eq_fault s).mpr ⟨hs, hb, ha⟩, (start_eq_fault (storeBits ack peri s)).mpr ⟨hs, hb, ha⟩]
        rfl
      | some a =>
        rw [start_of_flush hs hb ha, start_of_flush (s := storeBits ack peri s) hs hb ha]
        rfl

/-- The word of a STOP alone, with AcknowledgeEnable restated and PeriEn set (R88). -/
theorem exec_stop_word (v : Word) (s : State) :
    exec (.wrControl1 ((v &&& 0x400) ||| 0x201)) s = .next (storeBits v[10] true (stop s)) := by
  have hperi : ((v &&& 0x400) ||| 0x201)[0] = true := by simp
  have hack : ((v &&& 0x400) ||| 0x201)[10] = v[10] := by simp
  rw [exec_wrControl1_of_no_start (by simp) (by simp), disabledBy_of_enabled hperi, stoppedBy_of_stop (by simp),
    storeControl1_eq, stop_storeBits, hperi, hack]

/-- The word of a START alone, likewise (R88). -/
theorem exec_start_word (v : Word) (s : State) :
    exec (.wrControl1 ((v &&& 0x400) ||| 0x101)) s = andThen (start s) fun u => .next (storeBits v[10] true u) := by
  have hperi : ((v &&& 0x400) ||| 0x101)[0] = true := by simp
  have hack : ((v &&& 0x400) ||| 0x101)[10] = v[10] := by simp
  rw [exec_wrControl1_of_start (by simp) (by simp), stoppedBy_of_no_stop (by simp), storeControl1_eq, start_storeBits,
    hperi, hack, andThen_assoc]
  simp only [disabledBy_of_enabled hperi, andThen_next]

/-- The word of the two stored bits alone. -/
theorem exec_store_word (v : Word) (s : State) :
    exec (.wrControl1 (v &&& 0x401)) s = .next (disabledBy v (storeBits v[10] v[0] s)) := by
  have hperi : (v &&& 0x401)[0] = v[0] := by simp
  have hack : (v &&& 0x401)[10] = v[10] := by simp
  rw [exec_wrControl1_of_no_start (by simp) (by simp), stoppedBy_of_no_stop (by simp), storeControl1_eq, hperi, hack,
    disabledBy, disabledBy, hperi]

/-- Settles O24: the stored bits pass through STOP and START unread, so the store may come last; of two stores the last
counts. -/
theorem combinedControl1WritesActInOrder : Obligations.CombinedControl1WritesActInOrder := by
  refine fun s v => ⟨fun hr => exec_wrControl1_of_reset hr s, fun hr => ?_⟩
  have last : ∀ (ack peri : Bool) (u : State), storeBits v[10] v[0] (storeBits ack peri u) = storeBits v[10] v[0] u :=
    fun _ _ _ => rfl
  cases hstart : v[8] <;> cases hstop : v[9] <;>
    simp only [if_true, Bool.false_eq_true, if_false, List.nil_append, List.cons_append, runOps, exec_stop_word,
      exec_start_word, exec_store_word, andThen_next, andThen_assoc, last]
  · rw [exec_wrControl1_of_no_start hr hstart, stoppedBy_of_no_stop hstop, storeControl1_eq]
  · rw [exec_wrControl1_of_no_start hr hstart, stoppedBy_of_stop hstop, storeControl1_eq, stop_storeBits]
  · simp only [exec_wrControl1_of_start hr hstart, stoppedBy_of_no_stop hstop, storeControl1_eq, start_storeBits,
      andThen_assoc, andThen_next]
  · simp only [exec_wrControl1_of_start hr hstart, stoppedBy_of_stop hstop, storeControl1_eq, start_storeBits,
      stop_storeBits, andThen_assoc, andThen_next, last]

end Sys2Proof.Machine
end

section
/-! PROOFS. Writes of Data in AwaitingAddress, and reads of Data (R144, R145, R148). -/

namespace Sys2Proof.Machine

/-! ## The address phase -/

theorem exec_wrData_awaitingAddress {s : State} (v : Word) (hs : s.txnState = .awaitingAddress) :
    exec (.wrData v) s = .next (addressPhase (dataByteOf v) s) := by
  simp only [exec, execWrData, hs]

/-- Settles O25: of the four outcomes only this one has the address found and bit 0 clear. -/
theorem addressPhaseForWriting : Obligations.AddressPhaseForWriting := by
  intro s v hs hd hf
  rw [exec_wrData_awaitingAddress v hs]
  rw [← addressOf_dataByteOf] at hf ⊢
  rw [← directionIsRead_dataByteOf] at hd
  obtain ⟨hf', -⟩ | ⟨-, -, h⟩ | ⟨-, hd', -⟩ | ⟨-, hd', -⟩ := addressPhase_cases (dataByteOf v) s
  · exact absurd hf hf'
  · rw [h]
  · simp [hd] at hd'
  · simp [hd] at hd'

/-- Settles O26: with the address found and bit 0 set the queue decides whether a slave is read. -/
theorem addressPhaseForReading : Obligations.AddressPhaseForReading := by
  intro s v hs hd hf
  rw [exec_wrData_awaitingAddress v hs]
  rw [← addressOf_dataByteOf] at hf ⊢
  rw [← directionIsRead_dataByteOf] at hd
  obtain ⟨hf', -⟩ | ⟨-, hd', -⟩ | ⟨-, -, hq, h⟩ | ⟨-, -, hq, h⟩ := addressPhase_cases (dataByteOf v) s
  · exact absurd hf hf'
  · simp [hd] at hd'
  · exact ⟨fun hq' => absurd hq' hq, fun _ => by rw [h]⟩
  · exact ⟨fun _ => by rw [h], fun hq' => absurd hq hq'⟩

/-- Settles O27: of the four outcomes only this one has the address not found. -/
theorem unregisteredAddressIsNotAcknowledged : Obligations.UnregisteredAddressIsNotAcknowledged := by
  intro s v hs hf
  rw [exec_wrData_awaitingAddress v hs]
  rw [← addressOf_dataByteOf] at hf
  obtain ⟨-, h⟩ | ⟨hf', -⟩ | ⟨hf', -⟩ | ⟨hf', -⟩ := addressPhase_cases (dataByteOf v) s
  · rw [h]
  · exact absurd hf' hf
  · exact absurd hf' hf
  · exact absurd hf' hf

/-- A write of Data is made from the byte its value carries (R84 c). -/
theorem exec_wrData_congr {v w : Word} (h : dataByteOf v = dataByteOf w) (s : State) :
    exec (.wrData v) s = exec (.wrData w) s := by
  simp only [exec, execWrData, h]

/-- Settles O30: values that agree in bits 7:0 carry the same byte. -/
theorem upperBitsOfADataWriteAreIgnored : Obligations.UpperBitsOfADataWriteAreIgnored := by
  intro s v w h
  apply exec_wrData_congr
  apply BitVec.eq_of_getLsbD_eq
  intro i hi
  simp [dataByteOf, hi, h i hi]

/-! ## Reads -/

/-- Settles O31: a byte remains, or one `Read` call is made. -/
theorem readingDataWhileReceiving : Obligations.ReadingDataWhileReceiving := by
  refine fun s hs => ⟨fun b c rest hq => execRdData_more hs hq, fun a pulse ha hq hpulse => ?_⟩
  show execRdData s = _
  rw [execRdData_refill hs ha hq, refillFrom_dequeue, ← hpulse]
  rfl

/-- Settles O32: outside ReceivingData the queue alone decides. -/
theorem readingDataOutsideReceiving : Obligations.ReadingDataOutsideReceiving := by
  intro s hs
  have run : exec .rdData s = _ := execRdData_elsewhere hs
  refine ⟨fun hq => ?_, fun b rest hq => ?_⟩
  · simp [run, dataRegisterNotEmpty, hq, recomputeIfTook, headByte, dequeue, returnValue, diag, dataValue]
  · simp [run, dataRegisterNotEmpty, hq, recomputeIfTook, headByte, dequeue, returnValue, dataValue]

/-- One read more: its value, then those of the reads after it. -/
theorem readDataTimes_succ {n : Nat} {s u t : State} {v : Word} {vs : List Word} (h : exec .rdData s = .next u)
    (hv : u.readData = some v) (hrest : readDataTimes n u = some (vs, t)) :
    readDataTimes (n + 1) s = some (v :: vs, t) := by
  simp only [readDataTimes, h, hv, hrest]

/-- Settles O33, by induction on the bytes to be read: while bytes remain after the head, a read takes it and keeps the
rest of the situation. -/
theorem drainingReturnsTheQueueInOrder : Obligations.DrainingReturnsTheQueueInOrder := by
  intro s first rest
  induction first generalizing s with
  | nil => exact fun hs hq _ => ⟨s, rfl, hq, hs, rfl, rfl, rfl, rfl⟩
  | cons b bs ih =>
    intro hs hq hrest
    obtain ⟨c, tail, hmore⟩ : ∃ c tail, bs ++ rest = c :: tail :=
      List.exists_cons_of_ne_nil (List.append_ne_nil_of_right_ne_nil bs hrest)
    rw [List.cons_append, hmore] at hq
    have run := execRdData_more hs hq
    rw [← hmore] at run
    obtain ⟨t, hreads, hinQ, htxn, hsel, hlog, hpending, hanswers⟩ :=
      ih (returnValue (dataValue b) (recompute { s with inQ := bs ++ rest })) hs rfl hrest
    simp only [returnValue_sel, returnValue_slaveLog, returnValue_pending, returnValue_answers, recompute_sel,
      recompute_slaveLog, recompute_pending, recompute_answers] at hsel hlog hpending hanswers
    exact ⟨t, readDataTimes_succ run rfl hreads, hinQ, htxn, hsel, hlog, hpending, hanswers⟩

end Sys2Proof.Machine
end

section
/-! PROOFS. Where operations stop, what they leave unchanged, the selected slave after them, and the soundness they keep
(R44, R140, R143, R210). -/

namespace Sys2Proof.Machine

/-! ## A write of Control1 part by part -/

/-- What every part of a write of Control1 keeps, the write keeps: the store, then STOP, START and peripheral-disable as
the written bits say (R101). -/
theorem execWrControl1_induct {R : State → State → Prop} {v : Word} {s t : State} (hr : v[15] = false)
    (refl : ∀ s, R s s) (trans : ∀ {s u t}, R s u → R u t → R s t) (store : R s (storeControl1 v s))
    (stop : v[9] = true → ∀ s, R s (stop s)) (start : v[8] = true → ∀ {s t}, start s = .next t → R s t)
    (disable : v[0] = false → ∀ s, R s (peripheralDisable s)) (h : execWrControl1 v s = .next t) : R s t := by
  obtain ⟨hr', -⟩ | ⟨-, stopped, started, hstop, hstart, hperi⟩ := execWrControl1_cases h
  · simp [hr] at hr'
  have stopPart : R (storeControl1 v s) stopped := by
    obtain ⟨hv, rfl⟩ | ⟨-, rfl⟩ := hstop
    · exact stop hv _
    · exact refl _
  have startPart : R stopped started := by
    obtain ⟨hv, hst⟩ | ⟨-, rfl⟩ := hstart
    · exact start hv hst
    · exact refl _
  have disablePart : R started t := by
    obtain ⟨-, rfl⟩ | ⟨hv, rfl⟩ := hperi
    · exact refl _
    · exact disable hv _
  exact trans (trans (trans store stopPart) startPart) disablePart

theorem execWrControl1_eq_resetBlock {v : Word} {s t : State} (hr : v[15] = true) (h : execWrControl1 v s = .next t) :
    t = resetBlock s :=
  Host.Outcome.next.inj (h.symm.trans (exec_wrControl1_of_reset hr s))

/-- What a write of Control1 without SoftwareReset leaves as it is, whatever it triggers. -/
structure Control1Frame (s t : State) : Prop where
  sel : t.sel = s.sel
  inQ : t.inQ = s.inQ
  diagLog : t.diagLog = s.diagLog
  params : t.params = s.params
  requests : t.requests = s.requests
  answers : t.answers = s.answers
  answerCount : t.answerCount = s.answerCount

theorem Control1Frame.refl (s : State) : Control1Frame s s := ⟨rfl, rfl, rfl, rfl, rfl, rfl, rfl⟩

theorem Control1Frame.trans {s u t : State} (hsu : Control1Frame s u) (hut : Control1Frame u t) : Control1Frame s t where
  sel := hut.sel.trans hsu.sel
  inQ := hut.inQ.trans hsu.inQ
  diagLog := hut.diagLog.trans hsu.diagLog
  params := hut.params.trans hsu.params
  requests := hut.requests.trans hsu.requests
  answers := hut.answers.trans hsu.answers
  answerCount := hut.answerCount.trans hsu.answerCount

theorem execWrControl1_frame {v : Word} {s t : State} (hr : v[15] = false) (h : execWrControl1 v s = .next t) :
    Control1Frame s t := by
  refine execWrControl1_induct hr .refl .trans ⟨rfl, rfl, rfl, rfl, rfl, rfl, rfl⟩ (fun _ s => ?_) (fun _ s t h => ?_)
    (fun _ s => ⟨rfl, rfl, rfl, rfl, rfl, rfl, rfl⟩) h
  · obtain ⟨ls, log, ⟨-, h⟩ | ⟨a, -, -, h⟩⟩ := stop_cases s <;> rw [h] <;> exact ⟨rfl, rfl, rfl, rfl, rfl, rfl, rfl⟩
  · obtain ⟨-, rfl⟩ | ⟨-, -, rfl⟩ | ⟨-, -, a, -, rfl⟩ := start_cases h <;> exact ⟨rfl, rfl, rfl, rfl, rfl, rfl, rfl⟩

/-! ## Where operations stop -/

/-- The operation must call the selected slave and none is selected: the one stop of log 12. -/
def LacksSlave (i : Instr) (s : State) : Prop :=
  s.sel = none ∧
    ((i = .rdData ∧ s.txnState = .receivingData ∧ s.inQ.length ≤ 1) ∨
     (isStartOp i = true ∧ s.outBuf ≠ [] ∧ (isStopOp i = true ∨ s.txnState ≠ .awaitingAddress)))

theorem start_eq_next_of_not_fault {s : State} (h : ¬ (s.txnState ≠ .awaitingAddress ∧ s.outBuf ≠ [] ∧ s.sel = none)) :
    ∃ t, start s = .next t := by
  by_cases hs : s.txnState = .awaitingAddress
  · exact ⟨s, start_of_awaitingAddress hs⟩
  · by_cases hb : s.outBuf = []
    · exact ⟨_, start_of_no_flush hs hb⟩
    · obtain ⟨a, ha⟩ := Option.ne_none_iff_exists'.mp fun hn => h ⟨hs, hb, hn⟩
      exact ⟨_, start_of_flush hs hb ha⟩

/-- The START of a write stops exactly when the write lacks a slave: a STOP before it has flushed if it could (R101). -/
theorem start_stoppedBy_must_flush {v : Word} (hr : v[15] = false) (hstart : v[8] = true) (s : State) :
    ((stoppedBy v s).txnState ≠ .awaitingAddress ∧ (stoppedBy v s).outBuf ≠ [] ∧ (stoppedBy v s).sel = none) ↔
      LacksSlave (.wrControl1 v) s := by
  cases hstop : v[9] with
  | true =>
    rw [stoppedBy_of_stop hstop, stop_txnState, stop_sel, stop_outBuf]
    simp only [storeControl1, LacksSlave, isStartOp, isStopOp, softwareResetOf_eq, stopGenOf_eq, startGenOf_eq, hr,
      hstart, hstop]
    by_cases ha : s.sel = none <;> simp [ha]
  | false =>
    rw [stoppedBy_of_no_stop hstop]
    simp only [storeControl1, LacksSlave, isStartOp, isStopOp, softwareResetOf_eq, stopGenOf_eq, startGenOf_eq, hr,
      hstart, hstop]
    simp
    tauto

theorem exec_wrControl1_outcome (v : Word) (s : State) :
    (¬ LacksSlave (.wrControl1 v) s → ∃ t, exec (.wrControl1 v) s = .next t) ∧
    (LacksSlave (.wrControl1 v) s → exec (.wrControl1 v) s = .fault .noSelectedSlave) := by
  by_cases hstart : isStartOp (.wrControl1 v) = true
  · obtain ⟨hr, hg⟩ : v[15] = false ∧ v[8] = true := by simpa [isStartOp] using hstart
    rw [exec_wrControl1_of_start hr hg, ← start_stoppedBy_must_flush hr hg, ← start_eq_fault]
    refine ⟨fun h => ?_, fun h => by rw [h, andThen_fault]⟩
    obtain ⟨t, ht⟩ := start_eq_next_of_not_fault (mt (start_eq_fault _).mpr h)
    exact ⟨disabledBy v t, by rw [ht, andThen_next]⟩
  · refine ⟨fun _ => ?_, fun h => by simp [LacksSlave, hstart] at h⟩
    cases hr : v[15] with
    | true => exact ⟨_, exec_wrControl1_of_reset hr s⟩
    | false =>
      have hg : v[8] = false := by simpa [isStartOp, hr] using hstart
      exact ⟨_, exec_wrControl1_of_no_start hr hg s⟩

theorem exec_rdData_outcome (s : State) :
    (¬ LacksSlave .rdData s → ∃ t, exec .rdData s = .next t) ∧
    (LacksSlave .rdData s → exec .rdData s = .fault .noSelectedSlave) := by
  refine ⟨fun h => ?_, fun ⟨ha, h⟩ => ?_⟩
  · by_cases hs : s.txnState = .receivingData
    · match hq : s.inQ, ha : s.sel with
      | b :: c :: rest, _ => exact ⟨_, execRdData_more hs hq⟩
      | [], some a => exact ⟨_, execRdData_refill hs ha (by simp [hq])⟩
      | [b], some a => exact ⟨_, execRdData_refill hs ha (by simp [hq])⟩
      | [], none => exact absurd ⟨ha, .inl ⟨rfl, hs, by simp [hq]⟩⟩ h
      | [b], none => exact absurd ⟨ha, .inl ⟨rfl, hs, by simp [hq]⟩⟩ h
    · exact ⟨_, execRdData_elsewhere hs⟩
  · obtain ⟨-, hs, hq⟩ | ⟨hstart, -⟩ := h
    · exact execRdData_no_slave hs ha hq
    · simp [isStartOp] at hstart

/-- Every operation goes on, but for the one stop. -/
theorem exec_outcome (i : Instr) (s : State) :
    (¬ LacksSlave i s → ∃ t, exec i s = .next t) ∧ (LacksSlave i s → exec i s = .fault .noSelectedSlave) := by
  cases i with
  | wrControl1 v => exact exec_wrControl1_outcome v s
  | rdData => exact exec_rdData_outcome s
  | wrData v =>
    refine ⟨fun _ => ?_, fun h => by simp [LacksSlave, isStartOp] at h⟩
    simp only [exec, execWrData]
    split <;> exact ⟨_, rfl⟩
  | _ => exact ⟨fun _ => ⟨_, rfl⟩, fun h => by simp [LacksSlave, isStartOp] at h⟩

/-- Settles O56: an operation goes on unless it lacks a slave, and stops if it does. -/
theorem operationsStopOnlyWithoutASelectedSlave : Obligations.OperationsStopOnlyWithoutASelectedSlave := by
  refine ⟨fun i s r h => ?_, fun i s => ⟨fun h => ?_, (exec_outcome i s).2⟩⟩
  · by_cases hl : LacksSlave i s
    · simp [(exec_outcome i s).2 hl] at h
    · obtain ⟨t, ht⟩ := (exec_outcome i s).1 hl
      simp [ht] at h
  · by_contra hl
    obtain ⟨t, ht⟩ := (exec_outcome i s).1 hl
    simp [ht] at h

/-! ## What one operation can do -/

/-- The ways an operation goes on, as field updates. What the lines and LineLog become is left open, and a write of
Control1 that is no reset stands for itself: its parts are taken by `execWrControl1_induct`. -/
inductive Effect (s : State) : Instr → State → Prop
  | reset {i : Instr} (op : isResetOp i = true) : Effect s i (resetBlock s)
  | control1 {v : Word} {t : State} (hr : v[15] = false) (h : execWrControl1 v s = .next t) : Effect s (.wrControl1 v) t
  | control2 (v : Word) (ls : Lines) (log : List (Line × Bool)) (p : List Action) :
    Effect s (.wrControl2 v) { storeControl2 v s with lines := ls, lineLog := log, pending := p }
  | takenMoreLeft {b c : Byte} {rest : List Byte} (txn : s.txnState = .receivingData) (queue : s.inQ = b :: c :: rest)
    (r : Word) (ls : Lines) (log : List (Line × Bool)) :
    Effect s .rdData { s with inQ := c :: rest, lines := ls, lineLog := log, readData := some r }
  | refilled {a : SlaveAddr} (txn : s.txnState = .receivingData) (queue : s.inQ.length ≤ 1) (sel : s.sel = some a)
    (p : List Action) (r : Word) (ls : Lines) (log : List (Line × Bool)) :
    Effect s .rdData { s with
      inQ := nextAnswer s, byteTransferFinished := decide (nextAnswer s ≠ [])
      slaveLog := s.slaveLog ++ [.read a s.params.readCount (nextAnswer s)]
      answers := s.answers.tail, answerCount := s.answerCount + 1
      diagLog := s.diagLog ++ (if s.inQ = [] then [.emptyQueueRead] else [])
      pending := s.pending ++ p, lines := ls, lineLog := log, readData := some r }
  | nothingQueued (txn : s.txnState ≠ .receivingData) (queue : s.inQ = []) (r : Word) :
    Effect s .rdData { s with diagLog := s.diagLog ++ [.emptyQueueRead], readData := some r }
  | leftOverTaken {b : Byte} {rest : List Byte} (txn : s.txnState ≠ .receivingData) (queue : s.inQ = b :: rest)
    (r : Word) (ls : Lines) (log : List (Line × Bool)) :
    Effect s .rdData { s with inQ := rest, lines := ls, lineLog := log, readData := some r }
  | nacked {v : Word} (txn : s.txnState = .awaitingAddress) (unknown : v.extractLsb' 1 7 ∉ s.params.slaves) :
    Effect s (.wrData v) { s with
      startBit := false, acknowledgeFailed := true, txnState := .idle, pending := s.pending ++ [.recompute] }
  | selectedForWriting {v : Word} (txn : s.txnState = .awaitingAddress) (found : v.extractLsb' 1 7 ∈ s.params.slaves)
    (dir : v[0] = false) :
    Effect s (.wrData v) { s with
      startBit := false, sel := some (v.extractLsb' 1 7), addressSentOrMatched := true, transmitterReceiver := true
      outBuf := [], dataRegisterEmpty := true, txnState := .awaitingData, pending := s.pending ++ [.recompute] }
  | selectedForReading {v : Word} (txn : s.txnState = .awaitingAddress) (found : v.extractLsb' 1 7 ∈ s.params.slaves)
    (dir : v[0] = true) (queue : s.inQ ≠ []) :
    Effect s (.wrData v) { s with
      startBit := false, sel := some (v.extractLsb' 1 7), addressSentOrMatched := true, transmitterReceiver := false
      byteTransferFinished := true, txnState := .receivingData, pending := s.pending ++ [.recompute] }
  | fetched {v : Word} (txn : s.txnState = .awaitingAddress) (found : v.extractLsb' 1 7 ∈ s.params.slaves)
    (dir : v[0] = true) (queue : s.inQ = []) :
    Effect s (.wrData v) { s with
      startBit := false, sel := some (v.extractLsb' 1 7), addressSentOrMatched := true, transmitterReceiver := false
      inQ := nextAnswer s
      slaveLog := s.slaveLog ++ [.read (v.extractLsb' 1 7) s.params.readCount (nextAnswer s)]
      answers := s.answers.tail, answerCount := s.answerCount + 1
      byteTransferFinished := true, txnState := .receivingData, pending := s.pending ++ [.recompute] }
  | byteCollected {v : Word} (txn : s.txnState = .awaitingData) :
    Effect s (.wrData v) { s with
      outBuf := s.outBuf ++ [dataByteOf v], pending := s.pending ++ [.dataWriteDone] }
  | byteIgnored {v : Word} (txn : s.txnState = .idle ∨ s.txnState = .receivingData) :
    Effect s (.wrData v) { s with diagLog := s.diagLog ++ [.invalidStateWrite] }
  | failedCleared {i : Instr}
    (op : (∃ v, i = .wrStatus1 v ∧ v[10] = false) ∨ (i = .rdStatus1 ∧ s.params.afReadClears = true))
    (r : Option Word) (ls : Lines) (log : List (Line × Bool)) :
    Effect s i { s with acknowledgeFailed := false, lines := ls, lineLog := log, readData := r }
  | sentCleared (r : Option Word) (ls : Lines) (log : List (Line × Bool)) :
    Effect s .rdStatus2 { s with addressSentOrMatched := false, lines := ls, lineLog := log, readData := r }
  | quiesced (ls : Lines) (log : List (Line × Bool)) :
    Effect s .quiesce { s with
      dataRegisterEmpty := s.dataRegisterEmpty || s.pending.contains .dataWriteDone
      byteTransferFinished := s.byteTransferFinished || s.pending.contains .dataWriteDone
      lines := ls, lineLog := log, pending := [] }
  | registerOnly {i : Instr} (noData : sentByte i = none) (own1 own2 clock rise noise : Word) (r : Option Word) :
    Effect s i { s with
      ownAddress1 := own1, ownAddress2 := own2, clockControl := clock, riseTime := rise, noiseFilter := noise
      readData := r, diagLog := s.diagLog ++ diagOf s i }

/-- An operation that changes nothing but what it returns, or a stored-only register, and records its diagnostic. -/
theorem Effect.of_registerOnly {s t : State} {i : Instr} (noData : sentByte i = none) (h : t = { s with
    ownAddress1 := t.ownAddress1, ownAddress2 := t.ownAddress2, clockControl := t.clockControl, riseTime := t.riseTime
    noiseFilter := t.noiseFilter, readData := t.readData, diagLog := s.diagLog ++ diagOf s i }) : Effect s i t :=
  h ▸ .registerOnly noData _ _ _ _ _ _

theorem Effect.of_silent {s t : State} {i : Instr} (noData : sentByte i = none) (hd : diagOf s i = []) (h : t = { s with
    ownAddress1 := t.ownAddress1, ownAddress2 := t.ownAddress2, clockControl := t.clockControl, riseTime := t.riseTime
    noiseFilter := t.noiseFilter, readData := t.readData }) : Effect s i t :=
  .of_registerOnly noData (by rw [hd, List.append_nil]; exact h)

theorem execRdData_effect {s t : State} (h : execRdData s = .next t) : Effect s .rdData t := by
  obtain ⟨ls, log, v, ⟨hs, b, c, rest, hq, rfl⟩ | ⟨hs, hq, a, p, ha, rfl⟩ | ⟨hs, hq, rfl⟩ | ⟨hs, b, rest, hq, rfl⟩⟩ :=
    execRdData_cases h
  · exact .takenMoreLeft hs hq _ _ _
  · exact .refilled hs hq ha _ _ _ _
  · exact .nothingQueued hs hq _
  · exact .leftOverTaken hs hq _ _ _

theorem execWrData_effect {v : Word} {s t : State} (h : execWrData v s = .next t) : Effect s (.wrData v) t := by
  obtain ⟨hs, hf, rfl⟩ | ⟨hs, hf, hd, rfl⟩ | ⟨hs, hf, hd, hq, rfl⟩ | ⟨hs, hf, hd, hq, rfl⟩ | ⟨hs, rfl⟩ | ⟨hs, rfl⟩ :=
    execWrData_cases h
  · exact .nacked hs hf
  · exact .selectedForWriting hs hf hd
  · exact .selectedForReading hs hf hd hq
  · exact .fetched hs hf hd hq
  · exact .byteCollected hs
  · exact .byteIgnored hs

theorem exec_effect {i : Instr} {s t : State} (h : exec i s = .next t) : Effect s i t := by
  cases i with
  | wrControl1 v =>
    cases hr : v[15] with
    | true => rw [execWrControl1_eq_resetBlock hr h]; exact .reset hr
    | false => exact .control1 hr h
  | wrControl2 v =>
    obtain ⟨ls, log, p, hs⟩ := execWrControl2_shape v s
    cases h.symm.trans hs
    exact .control2 v ls log p
  | rdData => exact execRdData_effect h
  | wrData v => exact execWrData_effect h
  | rdStatus1 =>
    obtain ⟨ls, log, hc⟩ := clearAcknowledgeFailed_shape s
    rw [exec_rdStatus1, hc] at h
    cases h
    split
    · next hp => exact .failedCleared (.inr ⟨rfl, hp⟩) _ ls log
    · exact .of_silent rfl rfl rfl
  | wrStatus1 v =>
    obtain ⟨ls, log, hc⟩ := clearAcknowledgeFailed_shape s
    rw [exec_wrStatus1, hc] at h
    cases h
    split
    · exact .of_silent rfl rfl rfl
    · next hv => exact .failedCleared (.inl ⟨v, rfl, by simpa using hv⟩) _ ls log
  | rdStatus2 =>
    obtain ⟨ls, log, hc⟩ := clearAddressSent_shape s
    rw [exec_rdStatus2, hc] at h
    cases h
    exact .sentCleared _ ls log
  | quiesce =>
    obtain ⟨ls, log, hq⟩ := runPending_fields s.pending s
    rw [exec_quiesce, hq] at h
    cases h
    exact .quiesced ls log
  | reset => cases h; exact .reset rfl
  | rdUnmapped off => cases h; exact .of_registerOnly rfl rfl
  | wrUnmapped off v => cases h; exact .of_registerOnly rfl rfl
  | _ => cases h; exact .of_silent rfl rfl rfl

/-- Every operation leaves the parameters and what is still issued as they are (R40, R7). -/
theorem exec_params_requests {i : Instr} {s t : State} (h : exec i s = .next t) :
    t.params = s.params ∧ t.requests = s.requests := by
  cases exec_effect h with
  | control1 hr h => exact ⟨(execWrControl1_frame hr h).params, (execWrControl1_frame hr h).requests⟩
  | _ => exact ⟨rfl, rfl⟩

/-! ## Soundness (R44) -/

/-- Outside AwaitingData the buffer is empty; in the two open states a slave is selected, as before the operation or by
its address phase; and the address phase selects none that is not registered. -/
theorem exec_sound {i : Instr} {s t : State} (hsound : s.Sound) (h : exec i s = .next t) : t.Sound := by
  obtain ⟨hbuffer, hselection, hregistry⟩ := hsound
  have htable := exec_txnState h
  have selected : t.selectionSound ∧ t.registrySound := by
    cases exec_effect h with
    | reset op => simp [State.selectionSound, State.registrySound, resetBlock_eq, State.reset]
    | control1 hr h =>
      have frame := execWrControl1_frame hr h
      refine ⟨fun hopen => ?_, ?_⟩
      · rw [frame.sel]
        apply hselection
        rw [htable] at hopen
        simp only [txnAfter, softwareResetOf_eq, hr, Bool.false_eq_true, if_false] at hopen
        split_ifs at hopen
        · simp at hopen
        · simp at hopen
        · exact hopen
      · rw [State.registrySound, frame.sel, frame.params]
        exact hregistry
    | nacked => exact ⟨by simp [State.selectionSound], hregistry⟩
    | selectedForWriting _ found => simpa [State.selectionSound, State.registrySound] using found
    | selectedForReading _ found => simpa [State.selectionSound, State.registrySound] using found
    | fetched _ found => simpa [State.selectionSound, State.registrySound] using found
    | _ => exact ⟨hselection, hregistry⟩
  refine ⟨fun hbytes => ?_, selected⟩
  have hopen : t.txnState = .awaitingData := by
    by_contra hclosed
    exact hbytes ((exec_bufferEffect h).outBuf_nil htable hbuffer hclosed)
  exact ⟨hopen, selected.1 (.inl hopen)⟩

/-- In a sound state a slave is selected wherever one must be called. -/
theorem not_lacksSlave_of_sound {i : Instr} {s : State} (hsound : s.Sound) : ¬ LacksSlave i s := by
  rintro ⟨ha, ⟨-, hs, -⟩ | ⟨-, hb, -⟩⟩
  · exact hsound.2.1 (.inr hs) ha
  · exact (hsound.1 hb).2 ha

/-- Settles O55: in a sound state no operation lacks a slave, and each keeps soundness. -/
theorem everyOperationReturnsInASoundState : Obligations.EveryOperationReturnsInASoundState := by
  intro s i hsound
  obtain ⟨t, ht⟩ := (exec_outcome i s).1 (not_lacksSlave_of_sound hsound)
  exact ⟨t, ht, exec_sound hsound ht⟩

/-- Settles O54: a step is nothing, one operation, or a sequence of register accesses and the end of a narrow access. -/
theorem everyStepKeepsSoundness : Obligations.EveryStepKeepsSoundness := by
  intro s t hsound h
  obtain ⟨-, rfl⟩ | ⟨a, rest, i, -, -, hexec⟩ | ⟨a, rest, -, -, -, hrun⟩ := step_cases h
  · exact hsound
  · exact exec_sound ((sound_withRequests s rest).mpr hsound) hexec
  · exact runBus_keeps (P := State.Sound) (fun i s t _ _ hs h => exec_sound hs h)
      (fun s r hs => (sound_withReadData s r).mpr hs) _ ((sound_withRequests s rest).mpr hsound) hrun

/-- Settles O53: the buffer is empty and the block Idle, so the first two hold; no slave is selected, so the third. -/
theorem powerOnStateIsSound : Obligations.PowerOnStateIsSound := by
  refine ⟨fun hb => absurd rfl hb, fun hs => ?_, fun a ha => ?_⟩
  · simp [State.reset] at hs
  · simp [State.reset] at ha

/-- Settles O18: the table gives the state after every operation. -/
theorem everyOperationFollowsTheTransitionTable : Obligations.EveryOperationFollowsTheTransitionTable :=
  fun _ _ _ h => exec_txnState h

end Sys2Proof.Machine
end

section
/-! PROOFS. The Incoming Queue, the answers, the slave calls and the diagnostics of every operation (R35, R39, R202,
R210). -/

namespace Sys2Proof.Machine

/-! ## The queue and the calls -/

/-- No `Read` is among the calls. -/
def NoReadIn (calls : List SlaveCall) : Prop := ∀ a n bytes, SlaveCall.read a n bytes ∉ calls

theorem noReadIn_nil : NoReadIn [] := fun _ _ _ => List.not_mem_nil

/-- When an operation makes a `Read` call: a read of Data in ReceivingData that leaves nothing queued, or a read-direction
address phase with nothing queued (R145, R148). -/
def ReadsSlave (i : Instr) (s : State) : Prop :=
  (i = .rdData ∧ s.txnState = .receivingData ∧ s.inQ.length ≤ 1) ∨
  (isAddressOp s i = true ∧ addressFound s i = true ∧ addressReads i = true ∧ s.inQ = [])

/-- What an operation does to the Incoming Queue, with its calls and the answers it takes: nothing and no `Read`; the head
taken; all dropped; the whole answer of one `Read` queued (R35, R202). -/
inductive QueueEffect (i : Instr) (s t : State) : Prop
  | kept (calls : List SlaveCall) (inQ : t.inQ = s.inQ) (log : t.slaveLog = s.slaveLog ++ calls)
      (noRead : NoReadIn calls) (one : calls.length ≤ 1)
      (answers : t.answers = s.answers) (count : t.answerCount = s.answerCount)
  | taken (op : i = .rdData) (inQ : t.inQ = s.inQ.tail) (log : t.slaveLog = s.slaveLog)
      (answers : t.answers = s.answers) (count : t.answerCount = s.answerCount)
  | dropped (op : isResetOp i = true) (inQ : t.inQ = []) (log : t.slaveLog = s.slaveLog)
      (answers : t.answers = s.answers) (count : t.answerCount = s.answerCount)
  | filled (a : SlaveAddr) (cause : ReadsSlave i s) (sel : t.sel = some a) (inQ : t.inQ = nextAnswer s)
      (log : t.slaveLog = s.slaveLog ++ [.read a s.params.readCount (nextAnswer s)])
      (answers : t.answers = s.answers.tail) (count : t.answerCount = s.answerCount + 1)

theorem QueueEffect.of_frame {i : Instr} {s t : State} (inQ : t.inQ = s.inQ) (log : t.slaveLog = s.slaveLog)
    (answers : t.answers = s.answers) (count : t.answerCount = s.answerCount) : QueueEffect i s t :=
  .kept [] inQ (by simp [log]) noReadIn_nil (by simp) answers count

theorem queueEffect_wrControl1 {v : Word} {s t : State} (hr : v[15] = false) (h : execWrControl1 v s = .next t) :
    QueueEffect (.wrControl1 v) s t := by
  have frame := execWrControl1_frame hr h
  cases keptOrFlushed_execWrControl1 hr h with
  | kept _ log _ => exact .of_frame frame.inQ log frame.answers frame.answerCount
  | flushed a _ _ _ log =>
    exact .kept _ frame.inQ log (by simp [NoReadIn]) (by simp) frame.answers frame.answerCount

theorem exec_queueEffect {i : Instr} {s t : State} (h : exec i s = .next t) : QueueEffect i s t := by
  cases exec_effect h with
  | reset op => exact .dropped op rfl rfl rfl rfl
  | control1 hr h => exact queueEffect_wrControl1 hr h
  | takenMoreLeft _ queue => exact .taken rfl (by rw [queue, List.tail_cons]) rfl rfl rfl
  | leftOverTaken _ queue => exact .taken rfl (by rw [queue, List.tail_cons]) rfl rfl rfl
  | refilled txn queue sel => exact .filled _ (.inl ⟨rfl, txn, queue⟩) sel rfl rfl rfl rfl
  | @fetched v txn found dir queue =>
    have cause : ReadsSlave (.wrData v) s :=
      .inr (by simp [isAddressOp, addressFound, addressReads, txn, found, dir, queue])
    exact .filled _ cause rfl rfl rfl rfl rfl
  | _ => exact .of_frame rfl rfl rfl rfl

/-- A `Read` among an operation's calls is the one that filled the queue. -/
theorem QueueEffect.read_fills {i : Instr} {s t : State} (heff : QueueEffect i s t) {new : List SlaveCall}
    {a : SlaveAddr} {n : Nat} {bytes : List Byte} (hnew : t.slaveLog = s.slaveLog ++ new)
    (hmem : .read a n bytes ∈ new) :
    new = [.read a n bytes] ∧ t.sel = some a ∧ n = s.params.readCount ∧ bytes = nextAnswer s ∧ t.inQ = bytes ∧
      ReadsSlave i s := by
  cases heff with
  | kept calls _ log noRead =>
    obtain rfl : new = calls := List.append_cancel_left (hnew.symm.trans log)
    exact absurd hmem (noRead a n bytes)
  | taken _ _ log =>
    obtain rfl : new = [] := by simpa [log] using hnew
    exact absurd hmem List.not_mem_nil
  | dropped _ _ log =>
    obtain rfl : new = [] := by simpa [log] using hnew
    exact absurd hmem List.not_mem_nil
  | filled b cause sel inQ log =>
    obtain rfl : new = _ := List.append_cancel_left (hnew.symm.trans log)
    obtain ⟨rfl, rfl, rfl⟩ : a = b ∧ n = s.params.readCount ∧ bytes = nextAnswer s := by simpa using hmem
    exact ⟨rfl, sel, rfl, rfl, inQ, cause⟩

/-- Settles O36: the four effects give the first clause, and only the last has a `Read`. -/
theorem incomingQueueIsAFifoRefilledOnlyWhenEmpty : Obligations.IncomingQueueIsAFifoRefilledOnlyWhenEmpty := by
  intro i s t h
  have heff := exec_queueEffect h
  refine ⟨?_, fun new a n bytes hnew hmem => heff.read_fills hnew hmem⟩
  cases heff with
  | kept _ inQ => exact .inl inQ
  | taken op inQ => exact .inr (.inl ⟨op, inQ⟩)
  | dropped op inQ => exact .inr (.inr (.inl ⟨op, inQ⟩))
  | filled a _ sel inQ log => exact .inr (.inr (.inr ⟨a, sel, inQ, log⟩))

/-- Settles O57: an answer is taken where the queue is filled, and nowhere else. -/
theorem parametersAndInputsAreNotTheBlocksToChange : Obligations.ParametersAndInputsAreNotTheBlocksToChange := by
  intro i s t h
  obtain ⟨params, requests⟩ := exec_params_requests h
  refine ⟨params, requests, ?_⟩
  cases exec_queueEffect h with
  | kept _ _ _ _ _ answers count => exact .inl ⟨answers, count⟩
  | taken _ _ _ answers count => exact .inl ⟨answers, count⟩
  | dropped _ _ _ answers count => exact .inl ⟨answers, count⟩
  | filled a _ _ _ log answers count => exact .inr ⟨answers, count, a, log⟩

/-! ## The traces -/

theorem QueueEffect.calls_length {i : Instr} {s t : State} (heff : QueueEffect i s t) :
    ∃ calls, t.slaveLog = s.slaveLog ++ calls ∧ calls.length ≤ 1 := by
  cases heff with
  | kept calls _ log _ one => exact ⟨calls, log, one⟩
  | taken _ _ log => exact ⟨[], by simp [log], by simp⟩
  | dropped _ _ log => exact ⟨[], by simp [log], by simp⟩
  | filled a _ _ _ log => exact ⟨_, log, by simp⟩

theorem diagOf_of_reset {i : Instr} (op : isResetOp i = true) (s : State) : diagOf s i = [] := by
  cases i with
  | reset => rfl
  | wrControl1 v => rfl
  | _ => cases op

theorem exec_diagLog {i : Instr} {s t : State} (h : exec i s = .next t) : t.diagLog = s.diagLog ++ diagOf s i := by
  have silent : diagOf s i = [] → t.diagLog = s.diagLog → t.diagLog = s.diagLog ++ diagOf s i := by
    intro hd ht
    rw [hd, ht, List.append_nil]
  cases exec_effect h with
  | reset op => exact silent (diagOf_of_reset op s) rfl
  | control1 hr h => exact silent rfl (execWrControl1_frame hr h).diagLog
  | takenMoreLeft _ queue => exact silent (by simp [diagOf, queue]) rfl
  | leftOverTaken _ queue => exact silent (by simp [diagOf, queue]) rfl
  | refilled => rfl
  | nothingQueued _ queue => simp [diagOf, queue]
  | byteIgnored txn => obtain hs | hs := txn <;> simp [diagOf, dataWriteDiag, hs]
  | failedCleared op => obtain ⟨v, rfl, -⟩ | ⟨rfl, -⟩ := op <;> exact silent rfl rfl
  | registerOnly => rfl
  | nacked txn => exact silent (by simp [diagOf, dataWriteDiag, txn]) rfl
  | selectedForWriting txn => exact silent (by simp [diagOf, dataWriteDiag, txn]) rfl
  | selectedForReading txn => exact silent (by simp [diagOf, dataWriteDiag, txn]) rfl
  | fetched txn => exact silent (by simp [diagOf, dataWriteDiag, txn]) rfl
  | byteCollected txn => exact silent (by simp [diagOf, dataWriteDiag, txn]) rfl
  | control2 | sentCleared | quiesced => exact silent rfl rfl

/-- Settles O58: at most one call comes of the queue's effect, and the diagnostic is the table's. -/
theorem tracesGrowByAtMostOneCallAndItsDiagnostic : Obligations.TracesGrowByAtMostOneCallAndItsDiagnostic :=
  fun _ _ _ h => ⟨(exec_queueEffect h).calls_length, exec_diagLog h⟩

end Sys2Proof.Machine
end

section
/-! PROOFS. Which operations set and clear each flag (R43). -/

namespace Sys2Proof.Machine

/-! ## Sets and clears -/

/-- A flag goes from b to c: it is set only with the one cause and cleared only with the other. -/
def Writes (set clear : Prop) (b c : Bool) : Prop := (b = false → c = true → set) ∧ (b = true → c = false → clear)

theorem Writes.refl {set clear : Prop} (b : Bool) : Writes set clear b b := by
  constructor <;> (intro h h'; simp [h] at h')

theorem Writes.trans {set clear : Prop} {b c d : Bool} (hbc : Writes set clear b c) (hcd : Writes set clear c d) :
    Writes set clear b d := by
  cases c with
  | true => exact ⟨fun hb _ => hbc.1 hb rfl, fun _ hd => hcd.2 rfl hd⟩
  | false => exact ⟨fun _ hd => hcd.1 rfl hd, fun hb _ => hbc.2 hb rfl⟩

theorem Writes.set {set clear : Prop} (h : set) (b : Bool) : Writes set clear b true :=
  ⟨fun _ _ => h, fun _ hc => by cases hc⟩

theorem Writes.clear {set clear : Prop} (h : clear) (b : Bool) : Writes set clear b false :=
  ⟨fun _ hc => (by cases hc), fun _ _ => h⟩

/-- What may set and clear each flag of Status1 and Status2 (R43), between the states u and t of an operation i that
began in s. -/
structure FlagWrites (i : Instr) (s u t : State) : Prop where
  startBit : Writes (isStartOp i = true) (isAddressOp s i = true ∨ isResetOp i = true) u.startBit t.startBit
  addressSentOrMatched : Writes (isAddressOp s i = true ∧ addressFound s i = true)
    (i = .rdStatus2 ∨ isResetOp i = true) u.addressSentOrMatched t.addressSentOrMatched
  byteTransferFinished : Writes
    ((isAddressOp s i = true ∧ addressFound s i = true ∧ addressReads i = true) ∨
      (i = .quiesce ∧ Action.dataWriteDone ∈ s.pending) ∨
      (i = .rdData ∧ s.txnState = .receivingData ∧ s.inQ.length ≤ 1 ∧ nextAnswer s ≠ []))
    (isStartOp i = true ∨ isStopOp i = true ∨ isDisableOp i = true ∨ isResetOp i = true ∨
      (i = .rdData ∧ s.txnState = .receivingData ∧ s.inQ.length ≤ 1 ∧ nextAnswer s = []))
    u.byteTransferFinished t.byteTransferFinished
  dataRegisterEmpty : Writes
    ((isAddressOp s i = true ∧ addressFound s i = true ∧ addressReads i = false) ∨
      (i = .quiesce ∧ Action.dataWriteDone ∈ s.pending))
    (isStartOp i = true ∨ isStopOp i = true ∨ isDisableOp i = true ∨ isResetOp i = true)
    u.dataRegisterEmpty t.dataRegisterEmpty
  acknowledgeFailed : Writes (isAddressOp s i = true ∧ addressFound s i = false)
    ((∃ v, i = .wrStatus1 v ∧ v[10] = false) ∨ (i = .rdStatus1 ∧ s.params.afReadClears = true) ∨
      isDisableOp i = true ∨ isResetOp i = true)
    u.acknowledgeFailed t.acknowledgeFailed
  masterSlave : Writes (isStartOp i = true) (isDisableOp i = true ∨ isResetOp i = true) u.masterSlave t.masterSlave
  transmitterReceiver : Writes (isAddressOp s i = true ∧ addressFound s i = true ∧ addressReads i = false)
    ((isAddressOp s i = true ∧ addressFound s i = true ∧ addressReads i = true) ∨
      isStartOp i = true ∨ isDisableOp i = true ∨ isResetOp i = true)
    u.transmitterReceiver t.transmitterReceiver

theorem FlagWrites.refl (i : Instr) (s u : State) : FlagWrites i s u u :=
  ⟨.refl _, .refl _, .refl _, .refl _, .refl _, .refl _, .refl _⟩

theorem FlagWrites.trans {i : Instr} {s u t w : State} (hut : FlagWrites i s u t) (htw : FlagWrites i s t w) :
    FlagWrites i s u w where
  startBit := hut.startBit.trans htw.startBit
  addressSentOrMatched := hut.addressSentOrMatched.trans htw.addressSentOrMatched
  byteTransferFinished := hut.byteTransferFinished.trans htw.byteTransferFinished
  dataRegisterEmpty := hut.dataRegisterEmpty.trans htw.dataRegisterEmpty
  acknowledgeFailed := hut.acknowledgeFailed.trans htw.acknowledgeFailed
  masterSlave := hut.masterSlave.trans htw.masterSlave
  transmitterReceiver := hut.transmitterReceiver.trans htw.transmitterReceiver

/-! ## Every operation -/

theorem flagWrites_resetBlock {i : Instr} (op : isResetOp i = true) (s u : State) : FlagWrites i s u (resetBlock u) where
  startBit := .clear (.inr op) _
  addressSentOrMatched := .clear (.inr op) _
  byteTransferFinished := .clear (.inr (.inr (.inr (.inl op)))) _
  dataRegisterEmpty := .clear (.inr (.inr (.inr op))) _
  acknowledgeFailed := .clear (.inr (.inr (.inr op))) _
  masterSlave := .clear (.inr op) _
  transmitterReceiver := .clear (.inr (.inr (.inr op))) _

theorem flagWrites_stop {i : Instr} (op : isStopOp i = true) (s u : State) : FlagWrites i s u (stop u) := by
  obtain ⟨ls, log, ⟨-, h⟩ | ⟨a, -, -, h⟩⟩ := stop_cases u <;> rw [h] <;>
    exact { FlagWrites.refl i s u with
      byteTransferFinished := .clear (.inr (.inl op)) _
      dataRegisterEmpty := .clear (.inr (.inl op)) _ }

theorem flagWrites_beginAddressPhase {i : Instr} (op : isStartOp i = true) (s u : State) :
    FlagWrites i s u (beginAddressPhase u) :=
  { FlagWrites.refl i s u with
    startBit := .set op _
    masterSlave := .set op _
    transmitterReceiver := .clear (.inr (.inl op)) _
    byteTransferFinished := .clear (.inl op) _
    dataRegisterEmpty := .clear (.inl op) _ }

theorem flagWrites_start {i : Instr} (op : isStartOp i = true) (s : State) {u t : State} (h : start u = .next t) :
    FlagWrites i s u t := by
  obtain ⟨-, rfl⟩ | ⟨-, -, rfl⟩ | ⟨-, -, a, -, rfl⟩ := start_eq_next h
  · exact .refl i s _
  · exact flagWrites_beginAddressPhase op s u
  · exact { flagWrites_beginAddressPhase op s (flushTo a u) with }

theorem flagWrites_peripheralDisable {i : Instr} (op : isDisableOp i = true) (s u : State) :
    FlagWrites i s u (peripheralDisable u) :=
  { FlagWrites.refl i s u with
    byteTransferFinished := .clear (.inr (.inr (.inl op))) _
    dataRegisterEmpty := .clear (.inr (.inr (.inl op))) _
    acknowledgeFailed := .clear (.inr (.inr (.inl op))) _
    masterSlave := .clear (.inl op) _
    transmitterReceiver := .clear (.inr (.inr (.inl op))) _ }

theorem flagWrites_wrControl1 {v : Word} {s t : State} (hr : v[15] = false) (h : execWrControl1 v s = .next t) :
    FlagWrites (.wrControl1 v) s s t := by
  refine execWrControl1_induct (R := FlagWrites (.wrControl1 v) s) hr (.refl _ s) .trans { FlagWrites.refl _ s s with }
    (fun hv u => ?_) (fun hv u t h => ?_) (fun hv u => ?_) h
  · exact flagWrites_stop (by simp [isStopOp, hr, hv]) s u
  · exact flagWrites_start (by simp [isStartOp, hr, hv]) s h
  · exact flagWrites_peripheralDisable (by simp [isDisableOp, hr, hv]) s u

/-- The flag that says whether a refill brought bytes is set or cleared by it, as the case may be (R148). -/
theorem Writes.decide {set clear p : Prop} [Decidable p] (hset : p → set) (hclear : ¬ p → clear) (b : Bool) :
    Writes set clear b (decide p) :=
  ⟨fun _ h => hset (of_decide_eq_true h), fun _ h => hclear (of_decide_eq_false h)⟩

/-- A flag that can only be added to. -/
theorem Writes.or {set clear : Prop} {c : Bool} (hset : c = true → set) (b : Bool) : Writes set clear b (b || c) := by
  cases b with
  | true => exact .refl _
  | false => exact ⟨fun _ h => hset h, fun h => by cases h⟩

/-- The write-direction address phase, as far as the flags go (R145). -/
theorem flagWrites_selectedForWriting {v : Word} {s : State} (txn : s.txnState = .awaitingAddress)
    (found : v.extractLsb' 1 7 ∈ s.params.slaves) (dir : v[0] = false) : FlagWrites (.wrData v) s s { s with
      startBit := false, addressSentOrMatched := true, transmitterReceiver := true, dataRegisterEmpty := true } := by
  have op : isAddressOp s (.wrData v) = true := by simp [isAddressOp, txn]
  have known : addressFound s (.wrData v) = true := by simp [addressFound, found]
  have writes : addressReads (.wrData v) = false := by simp [addressReads, dir]
  exact { FlagWrites.refl (.wrData v) s s with
    startBit := .clear (.inl op) _
    addressSentOrMatched := .set ⟨op, known⟩ _
    transmitterReceiver := .set ⟨op, known, writes⟩ _
    dataRegisterEmpty := .set (.inl ⟨op, known, writes⟩) _ }

/-- The read-direction address phase, with a call or without one, as far as the flags go (R145). -/
theorem flagWrites_selectedForReading {v : Word} {s : State} (txn : s.txnState = .awaitingAddress)
    (found : v.extractLsb' 1 7 ∈ s.params.slaves) (dir : v[0] = true) : FlagWrites (.wrData v) s s { s with
      startBit := false, addressSentOrMatched := true, transmitterReceiver := false, byteTransferFinished := true } := by
  have op : isAddressOp s (.wrData v) = true := by simp [isAddressOp, txn]
  have known : addressFound s (.wrData v) = true := by simp [addressFound, found]
  have reads : addressReads (.wrData v) = true := by simp [addressReads, dir]
  exact { FlagWrites.refl (.wrData v) s s with
    startBit := .clear (.inl op) _
    addressSentOrMatched := .set ⟨op, known⟩ _
    transmitterReceiver := .clear (.inl ⟨op, known, reads⟩) _
    byteTransferFinished := .set (.inl ⟨op, known, reads⟩) _ }

theorem exec_flagWrites {i : Instr} {s t : State} (h : exec i s = .next t) : FlagWrites i s s t := by
  cases exec_effect h with
  | reset op => exact flagWrites_resetBlock op s s
  | control1 hr h => exact flagWrites_wrControl1 hr h
  | @refilled a txn queue =>
    exact { FlagWrites.refl .rdData s s with
      byteTransferFinished := .decide (fun hn => .inr (.inr ⟨rfl, txn, queue, hn⟩))
        (fun hn => .inr (.inr (.inr (.inr ⟨rfl, txn, queue, not_not.mp hn⟩)))) _ }
  | @nacked v txn unknown =>
    have op : isAddressOp s (.wrData v) = true := by simp [isAddressOp, txn]
    exact { FlagWrites.refl (.wrData v) s s with
      startBit := .clear (.inl op) _
      acknowledgeFailed := .set ⟨op, by simp [addressFound, unknown]⟩ _ }
  | selectedForWriting txn found dir => exact { flagWrites_selectedForWriting txn found dir with }
  | selectedForReading txn found dir => exact { flagWrites_selectedForReading txn found dir with }
  | fetched txn found dir => exact { flagWrites_selectedForReading txn found dir with }
  | failedCleared op =>
    exact { FlagWrites.refl i s s with
      acknowledgeFailed := .clear (op.imp_right .inl) _ }
  | sentCleared =>
    exact { FlagWrites.refl .rdStatus2 s s with addressSentOrMatched := .clear (.inl rfl) _ }
  | quiesced =>
    have done (h : s.pending.contains .dataWriteDone = true) : Action.dataWriteDone ∈ s.pending := by simpa using h
    exact { FlagWrites.refl .quiesce s s with
      byteTransferFinished := .or (fun h => .inr (.inl ⟨rfl, done h⟩)) _
      dataRegisterEmpty := .or (fun h => .inr ⟨rfl, done h⟩) _ }
  | _ => exact { FlagWrites.refl _ s s with }

/-- Settles O37: the five flags of Status1, each with its set and its clear. -/
theorem status1FlagsHaveTheirListedWritersOnly : Obligations.Status1FlagsHaveTheirListedWritersOnly := by
  intro i s t h
  have w := exec_flagWrites h
  exact ⟨w.startBit.1, w.startBit.2, w.addressSentOrMatched.1, w.addressSentOrMatched.2, w.byteTransferFinished.1,
    w.byteTransferFinished.2, w.dataRegisterEmpty.1, w.dataRegisterEmpty.2, w.acknowledgeFailed.1, w.acknowledgeFailed.2⟩

/-! ## AcknowledgeEnable -/

/-- A write of Control1 leaves AcknowledgeEnable as written, unless it disables the peripheral (R101, R150). -/
theorem execWrControl1_acknowledgeEnable {v : Word} {s t : State} (hr : v[15] = false)
    (h : execWrControl1 v s = .next t) : t.acknowledgeEnable = (v[10] && v[0]) := by
  obtain ⟨hr', -⟩ | ⟨-, stopped, started, hstop, hstart, hperi⟩ := execWrControl1_cases h
  · simp [hr] at hr'
  have stored : stopped.acknowledgeEnable = v[10] := by
    obtain ⟨-, rfl⟩ | ⟨-, rfl⟩ := hstop
    · rw [storeControl1_eq, stop_storeBits]; rfl
    · rfl
  have kept : started.acknowledgeEnable = stopped.acknowledgeEnable := by
    obtain ⟨-, hst⟩ | ⟨-, rfl⟩ := hstart
    · obtain ⟨-, rfl⟩ | ⟨-, -, rfl⟩ | ⟨-, -, a, -, rfl⟩ := start_cases hst <;> rfl
    · rfl
  obtain ⟨hv, rfl⟩ | ⟨hv, rfl⟩ := hperi
  · rw [kept, stored, hv, Bool.and_true]
  · rw [hv, Bool.and_false]; rfl

theorem exec_acknowledgeEnable {i : Instr} {s t : State} (h : exec i s = .next t) :
    Writes (∃ v, i = .wrControl1 v ∧ v[10] = true ∧ v[0] = true ∧ v[15] = false)
      ((∃ v, i = .wrControl1 v ∧ (v[10] = false ∨ v[0] = false)) ∨ isResetOp i = true)
      s.acknowledgeEnable t.acknowledgeEnable := by
  cases exec_effect h with
  | reset op => exact .clear (.inr op) _
  | @control1 v _ hr h =>
    rw [execWrControl1_acknowledgeEnable hr h]
    cases ha : v[10] && v[0] with
    | true =>
      rw [Bool.and_eq_true] at ha
      exact .set ⟨v, rfl, ha.1, ha.2, hr⟩ _
    | false =>
      rw [Bool.and_eq_false_iff] at ha
      exact .clear (.inl ⟨v, rfl, ha⟩) _
  | _ => exact .refl _

/-- Settles O38: the two flags of Status2 and AcknowledgeEnable, each with its set and its clear. -/
theorem roleFlagsHaveTheirListedWritersOnly : Obligations.RoleFlagsHaveTheirListedWritersOnly := by
  intro i s t h
  have w := exec_flagWrites h
  have ack := exec_acknowledgeEnable h
  exact ⟨w.masterSlave.1, w.masterSlave.2, w.transmitterReceiver.1, w.transmitterReceiver.2, ack.1, ack.2⟩

end Sys2Proof.Machine
end

section
/-! PROOFS. LineLog and the levels of the lines through every operation (R171, R172, R181). -/

namespace Sys2Proof.Machine

/-! ## Logged changes of level -/

theorem replayLog_append (es fs : List (Line × Bool)) (ls : Lines) :
    replayLog (es ++ fs) ls = replayLog fs (replayLog es ls) := by
  induction es generalizing ls with
  | nil => rfl
  | cons e es ih => exact ih _

theorem allChanges_append (es fs : List (Line × Bool)) (ls : Lines) :
    allChanges (es ++ fs) ls = (allChanges es ls && allChanges fs (replayLog es ls)) := by
  induction es generalizing ls with
  | nil => rfl
  | cons e es ih => simp only [List.cons_append, allChanges, replayLog, ih, Bool.and_assoc]

/-- From s to t the lines change as LineLog says, by real changes, each of a kind that P allows. -/
def LogsLines (P : Line × Bool → Prop) (s t : State) : Prop :=
  ∃ new, t.lineLog = s.lineLog ++ new ∧ t.lines = replayLog new s.lines ∧ allChanges new s.lines = true ∧ ∀ e ∈ new, P e

section
variable {P : Line × Bool → Prop}

theorem LogsLines.of_frame {s t : State} (log : t.lineLog = s.lineLog) (lines : t.lines = s.lines) : LogsLines P s t :=
  ⟨[], by simp [log], lines, rfl, by simp⟩

theorem LogsLines.refl (s : State) : LogsLines P s s := .of_frame rfl rfl

theorem LogsLines.trans {s u t : State} (hsu : LogsLines P s u) (hut : LogsLines P u t) : LogsLines P s t := by
  obtain ⟨es, log, lines, changes, allowed⟩ := hsu
  obtain ⟨fs, log', lines', changes', allowed'⟩ := hut
  refine ⟨es ++ fs, ?_, ?_, ?_, ?_⟩
  · rw [log', log, List.append_assoc]
  · rw [lines', lines, replayLog_append]
  · rw [allChanges_append, changes, ← lines, changes', Bool.and_self]
  · simp only [List.mem_append]
    exact fun e he => he.elim (allowed e) (allowed' e)

/-- A part that leaves the lines alone may stand before one that moves them. -/
theorem LogsLines.of_same_start {s u t : State} (h : LogsLines P u t) (log : u.lineLog = s.lineLog)
    (lines : u.lines = s.lines) : LogsLines P s t :=
  (LogsLines.of_frame log lines).trans h

/-- And after it. -/
theorem LogsLines.of_same_end {s u t : State} (h : LogsLines P s u) (log : t.lineLog = u.lineLog)
    (lines : t.lines = u.lines) : LogsLines P s t :=
  h.trans (.of_frame log lines)

theorem logsLines_drive {l : Line} {b : Bool} (h : P (l, b)) (s : State) : LogsLines P s (drive l b s) := by
  by_cases hl : levelOf s.lines l = b
  · rw [drive_same l b s hl]
    exact .refl s
  · exact ⟨[(l, b)], by simp [hl], rfl, by simp [allChanges, hl], by simpa using h⟩

theorem logsLines_recompute (hevent : ∀ b, P (.eventInterrupt, b)) (herror : ∀ b, P (.errorInterrupt, b)) (s : State) :
    LogsLines P s (recompute s) :=
  (logsLines_drive (hevent _) s).trans (logsLines_drive (herror _) _)

end

/-- A line that is high after a sequence of entries was high before, or rises in it. -/
theorem rises_of_replayLog {es : List (Line × Bool)} {ls : Lines} {l : Line} (h : levelOf (replayLog es ls) l = true) :
    levelOf ls l = true ∨ (l, true) ∈ es := by
  induction es generalizing ls with
  | nil => exact .inl h
  | cons e es ih =>
    obtain ⟨l', b⟩ := e
    obtain hl | hl := ih h
    · rw [levelOf_withLevel] at hl
      split at hl
      · next heq => subst heq; subst hl; exact .inr List.mem_cons_self
      · exact .inl hl
    · exact .inr (List.mem_cons_of_mem _ hl)

/-! ## Which operation may move which line -/

/-- The operation recomputes before it returns, or runs deferred recomputes (R172). -/
def RecomputesAtOnce (i : Instr) (s : State) : Prop :=
  i = .quiesce ∨ i = .rdData ∨ i = .rdStatus1 ∨ i = .rdStatus2 ∨ (∃ v, i = .wrStatus1 v) ∨
  isStopOp i = true ∨ isDisableOp i = true ∨
  (∃ v, i = .wrControl2 v ∧ ((s.errorInterruptEnable = true ∧ v[8] = false) ∨
    (s.eventInterruptEnable = true ∧ v[9] = false) ∨
    (s.bufferInterruptEnable = true ∧ v[10] = false)))

/-- The changes of level an operation may log: an interrupt line's by a recompute; any fall by a reset; a DMA line's to
the new value of DmaEnable; DMAReceive's by a pulse (R172, R180 to R182, R240). -/
inductive MayLog (i : Instr) (s : State) : Line × Bool → Prop
  | event (b : Bool) (op : RecomputesAtOnce i s) : MayLog i s (.eventInterrupt, b)
  | error (b : Bool) (op : RecomputesAtOnce i s) : MayLog i s (.errorInterrupt, b)
  | reset (l : Line) (op : isResetOp i = true) : MayLog i s (l, false)
  | dmaEnable (l : Line) (v : Word) (op : i = .wrControl2 v) (edge : s.dmaEnable ≠ v[11])
      (dma : l = .dmaTransmit ∨ l = .dmaReceive) : MayLog i s (l, v[11])
  | pulse (b : Bool) (op : i = .quiesce) (pending : Action.dmaRxPulse ∈ s.pending) : MayLog i s (.dmaReceive, b)

theorem mayLog_recompute {i : Instr} {s : State} (op : RecomputesAtOnce i s) (u : State) :
    LogsLines (MayLog i s) u (recompute u) :=
  logsLines_recompute (fun b => .event b op) (fun b => .error b op) u

theorem mayLog_resetBlock {i : Instr} (op : isResetOp i = true) (s : State) :
    LogsLines (MayLog i s) s (resetBlock s) := by
  have fall (l : Line) (u : State) : LogsLines (MayLog i s) u (drive l false u) := logsLines_drive (.reset l op) u
  have falls := (((fall .eventInterrupt (resetFields s)).trans (fall .errorInterrupt _)).trans
    (fall .dmaTransmit _)).trans (fall .dmaReceive _)
  exact falls.of_same_start rfl rfl

theorem mayLog_wrControl1 {v : Word} {s t : State} (hr : v[15] = false) (h : execWrControl1 v s = .next t) :
    LogsLines (MayLog (.wrControl1 v) s) s t := by
  refine execWrControl1_induct hr .refl .trans (.of_frame rfl rfl) (fun hv u => ?_) (fun _ u t h => ?_)
    (fun hv u => ?_) h
  · have op : RecomputesAtOnce (.wrControl1 v) s := by simp [RecomputesAtOnce, isStopOp, hr, hv]
    have flushed : (stopFlush u).lineLog = u.lineLog ∧ (stopFlush u).lines = u.lines := by
      obtain ⟨h, -⟩ | ⟨a, -, -, h⟩ := stopFlush_cases u <;> rw [h] <;> exact ⟨rfl, rfl⟩
    exact (mayLog_recompute op _).of_same_start flushed.1 flushed.2
  · obtain ⟨-, rfl⟩ | ⟨-, -, rfl⟩ | ⟨-, -, a, -, rfl⟩ := start_cases h <;> exact .of_frame rfl rfl
  · have op : RecomputesAtOnce (.wrControl1 v) s := by simp [RecomputesAtOnce, isDisableOp, hr, hv]
    exact (mayLog_recompute op _).of_same_start rfl rfl

theorem mayLog_wrControl2 {v : Word} {s t : State} (h : exec (.wrControl2 v) s = .next t) :
    LogsLines (MayLog (.wrControl2 v) s) s t := by
  rw [exec_wrControl2] at h
  cases h
  have interrupts : LogsLines (MayLog (.wrControl2 v) s) (storeControl2 v s)
      (enablePolicy (enableFalls s v) (enableRises s v) (storeControl2 v s)) := by
    cases hf : enableFalls s v with
    | false => exact .of_frame (by simp [enablePolicy_lineLog]) (by simp [enablePolicy_lines])
    | true =>
      have op : RecomputesAtOnce (.wrControl2 v) s := by
        simpa [RecomputesAtOnce, isStopOp, isDisableOp] using (enableFalls_iff s v).mp hf
      exact (mayLog_recompute op _).of_same_end (by rw [enablePolicy_lineLog, if_pos rfl, recompute_lineLog_eq])
        (by rw [enablePolicy_lines, if_pos rfl])
  refine (interrupts.of_same_start rfl rfl).trans ?_
  rw [dmaPolicy_eq]
  split
  · exact .refl _
  · next edge =>
    exact (logsLines_drive (.dmaEnable _ v rfl edge (.inl rfl)) _).trans
      (logsLines_drive (.dmaEnable _ v rfl edge (.inr rfl)) _)

theorem mayLog_rdData {s t : State} (h : execRdData s = .next t) : LogsLines (MayLog .rdData s) s t := by
  have recomputed {u : State} (v : Word) (log : u.lineLog = s.lineLog) (lines : u.lines = s.lines) :
      LogsLines (MayLog .rdData s) s (returnValue v (recompute u)) :=
    ((mayLog_recompute (.inr (.inl rfl)) u).of_same_start log lines).of_same_end rfl rfl
  by_cases hs : s.txnState = .receivingData
  · by_cases hq : s.inQ.length ≤ 1
    · cases ha : s.sel with
      | none => rw [execRdData_no_slave hs ha hq] at h; cases h
      | some a =>
        rw [execRdData_refill hs ha hq, refillFrom_dequeue] at h
        cases h
        exact recomputed _ rfl rfl
    · match hq' : s.inQ with
      | [] => simp [hq'] at hq
      | [b] => simp [hq'] at hq
      | b :: c :: rest =>
        rw [execRdData_more hs hq'] at h
        cases h
        exact recomputed _ rfl rfl
  · rw [execRdData_elsewhere hs] at h
    cases h
    have dequeued : (dequeue s).lineLog = s.lineLog ∧ (dequeue s).lines = s.lines := by
      unfold dequeue
      split <;> exact ⟨rfl, rfl⟩
    unfold recomputeIfTook
    split
    · exact recomputed _ dequeued.1 dequeued.2
    · exact .of_frame dequeued.1 dequeued.2

theorem mayLog_clearAcknowledgeFailed {i : Instr} {s : State} (op : RecomputesAtOnce i s) :
    LogsLines (MayLog i s) s (clearAcknowledgeFailed s) := by
  unfold clearAcknowledgeFailed
  split
  · exact (mayLog_recompute op _).of_same_start rfl rfl
  · exact .refl s

theorem mayLog_clearAddressSent {i : Instr} {s : State} (op : RecomputesAtOnce i s) :
    LogsLines (MayLog i s) s (clearAddressSent s) := by
  unfold clearAddressSent
  split
  · exact (mayLog_recompute op _).of_same_start rfl rfl
  · exact .refl s

theorem mayLog_runPending {s : State} (as : List Action) (sub : ∀ a ∈ as, a ∈ s.pending) (u : State) :
    LogsLines (MayLog .quiesce s) u (runPending as u) := by
  induction as generalizing u with
  | nil => exact .of_frame rfl rfl
  | cons a rest ih =>
    have op : RecomputesAtOnce .quiesce s := .inl rfl
    have first : LogsLines (MayLog .quiesce s) u (runAction a { u with pending := rest }) := by
      cases a with
      | recompute => exact (mayLog_recompute op _).of_same_start rfl rfl
      | dataWriteDone => exact (mayLog_recompute op _).of_same_start rfl rfl
      | dmaRxPulse =>
        have pulse (b : Bool) := MayLog.pulse b rfl (sub _ List.mem_cons_self)
        exact ((logsLines_drive (pulse false) _).trans (logsLines_drive (pulse true) _)).of_same_start rfl rfl
    exact first.trans (ih (fun b hb => sub b (List.mem_cons_of_mem a hb)) _)

theorem exec_logsLines {i : Instr} {s t : State} (h : exec i s = .next t) : LogsLines (MayLog i s) s t := by
  cases i with
  | wrControl1 v =>
    cases hr : v[15] with
    | true => rw [execWrControl1_eq_resetBlock hr h]; exact mayLog_resetBlock (i := .wrControl1 v) hr s
    | false => exact mayLog_wrControl1 hr h
  | wrControl2 v => exact mayLog_wrControl2 h
  | rdData => exact mayLog_rdData h
  | wrData v =>
    obtain ⟨-, -, rfl⟩ | ⟨-, -, -, rfl⟩ | ⟨-, -, -, -, rfl⟩ | ⟨-, -, -, -, rfl⟩ | ⟨-, rfl⟩ | ⟨-, rfl⟩ :=
      execWrData_cases h <;> exact .of_frame rfl rfl
  | rdStatus1 =>
    cases h
    split
    · exact (mayLog_clearAcknowledgeFailed (.inr (.inr (.inl rfl)))).of_same_end rfl rfl
    · exact .of_frame rfl rfl
  | wrStatus1 v =>
    cases h
    split
    · exact .refl s
    · exact mayLog_clearAcknowledgeFailed (.inr (.inr (.inr (.inr (.inl ⟨v, rfl⟩)))))
  | rdStatus2 =>
    cases h
    exact (mayLog_clearAddressSent (.inr (.inr (.inr (.inl rfl))))).of_same_end rfl rfl
  | quiesce => cases h; exact mayLog_runPending s.pending (fun _ ha => ha) s
  | reset => cases h; exact mayLog_resetBlock rfl s
  | _ => cases h; exact .of_frame rfl rfl

/-! ## The three statements -/

/-- Settles O42: every operation logs the changes it makes. -/
theorem lineLogRecordsEveryChangeOfLevel : Obligations.LineLogRecordsEveryChangeOfLevel := by
  intro i s t h
  obtain ⟨new, log, lines, changes, -⟩ := exec_logsLines h
  exact ⟨new, log, lines, changes⟩

/-- An interrupt line that rose was logged to rise, and only a recompute may log that. -/
theorem recomputesAtOnce_of_rise {i : Instr} {s t : State} {l : Line} (h : exec i s = .next t)
    (hl : l = .eventInterrupt ∨ l = .errorInterrupt) (low : levelOf s.lines l = false)
    (high : levelOf t.lines l = true) : RecomputesAtOnce i s := by
  obtain ⟨new, -, lines, -, allowed⟩ := exec_logsLines h
  rw [lines] at high
  have logged : (l, true) ∈ new := (rises_of_replayLog high).resolve_left (by simp [low])
  obtain ⟨b, hb, logged⟩ : ∃ b, b = true ∧ (l, b) ∈ new := ⟨true, rfl, logged⟩
  cases allowed _ logged with
  | event _ op => exact op
  | error _ op => exact op
  | reset => cases hb
  | dmaEnable _ _ _ _ dma => obtain rfl | rfl := hl <;> simp at dma
  | pulse => simp at hl

/-- Settles O43: either line that rose was moved by a recompute. -/
theorem interruptLinesRiseOnlyInARecompute : Obligations.InterruptLinesRiseOnlyInARecompute := by
  rintro i s t h (⟨low, high⟩ | ⟨low, high⟩)
  · exact recomputesAtOnce_of_rise h (.inl rfl) low high
  · exact recomputesAtOnce_of_rise h (.inr rfl) low high

/-- Settles O17: the first clause is the fall of DmaEnable; the second is what an operation may log. -/
theorem dmaLinesFallOnlyByDisableResetOrPulse : Obligations.DmaLinesFallOnlyByDisableResetOrPulse := by
  refine ⟨fun s v hold hnew => ?_, fun i s t new l h log dma fall => ?_⟩
  · obtain ⟨t, before, ht, hbefore, -, -, hfall, -⟩ := dmaEnableDrivesBothRequestLines s v
    obtain ⟨transmit, receive, log⟩ := hfall hold hnew
    exact ⟨t, before, ht, transmit, receive, log, hbefore⟩
  · obtain ⟨new', log', -, -, allowed⟩ := exec_logsLines h
    obtain rfl : new = new' := List.append_cancel_left (log.symm.trans log')
    obtain ⟨b, hb, fall⟩ : ∃ b, b = false ∧ (l, b) ∈ new := ⟨false, rfl, fall⟩
    cases allowed _ fall with
    | event => simp at dma
    | error => simp at dma
    | reset _ op => exact .inl op
    | dmaEnable _ v op edge _ =>
      rw [hb] at edge
      exact .inr (.inl ⟨v, op, by simpa using edge, hb⟩)
    | pulse _ op pending => exact .inr (.inr ⟨op, pending, rfl⟩)

end Sys2Proof.Machine
end

section
/-! PROOFS. Fields that play no part: what is pending, the stored-only registers, the selection left over (R36, R41, R44,
R193). -/

namespace Sys2Proof.Machine

/-! ## States seen through an overlay -/

/-- A map of states that touches nothing but the stored-only registers, Freq, DmaLastTransfer, AcknowledgeEnable, PeriEn,
the last value read and the selection, each by itself, and puts actions before those pending. -/
structure Overlay where
  acknowledgeEnable : Bool → Bool := id
  periEn : Bool → Bool := id
  freq : BitVec 6 → BitVec 6 := id
  dmaLastTransfer : Bool → Bool := id
  ownAddress1 : Word → Word := id
  ownAddress2 : Word → Word := id
  clockControl : Word → Word := id
  riseTime : Word → Word := id
  noiseFilter : Word → Word := id
  readData : Option Word → Option Word := id
  sel : Option SlaveAddr → Option SlaveAddr := id
  pending : List Action := []

/-- The state seen through the overlay. -/
def Overlay.on (o : Overlay) (s : State) : State :=
  { s with
    acknowledgeEnable := o.acknowledgeEnable s.acknowledgeEnable, periEn := o.periEn s.periEn, freq := o.freq s.freq
    dmaLastTransfer := o.dmaLastTransfer s.dmaLastTransfer
    ownAddress1 := o.ownAddress1 s.ownAddress1, ownAddress2 := o.ownAddress2 s.ownAddress2
    clockControl := o.clockControl s.clockControl, riseTime := o.riseTime s.riseTime
    noiseFilter := o.noiseFilter s.noiseFilter, readData := o.readData s.readData
    sel := o.sel s.sel, pending := o.pending ++ s.pending }

/-- The outcome seen through the overlay. -/
def Overlay.onNext (o : Overlay) (r : Result) : Result := andThen r fun u => .next (o.on u)

@[simp] theorem Overlay.onNext_next (o : Overlay) (s : State) : o.onNext (.next s) = .next (o.on s) := rfl

theorem Overlay.onNext_andThen (o : Overlay) (r : Result) (f : State → State) :
    o.onNext (andThen r fun u => .next (f u)) = andThen r fun u => .next (o.on (f u)) := by
  rw [onNext, andThen_assoc]
  rfl

theorem dequeue_of_nil {s : State} (h : s.inQ = []) : dequeue s = diag .emptyQueueRead s := by
  simp only [dequeue, h]

theorem dequeue_of_cons {s : State} {b : Byte} {rest : List Byte} (h : s.inQ = b :: rest) :
    dequeue s = { s with inQ := rest } := by
  simp only [dequeue, h]

section
variable (o : Overlay)

/-! ## The shared operations do not see it -/

theorem recompute_on (s : State) : recompute (o.on s) = o.on (recompute s) := rfl

theorem submit_on (a : Action) (s : State) : submit a (o.on s) = o.on (submit a s) := by
  simp [submit, Overlay.on]

theorem beginAddressPhase_on (s : State) : beginAddressPhase (o.on s) = o.on (beginAddressPhase s) := by
  rw [beginAddressPhase, beginAddressPhase, ← submit_on]
  rfl

theorem flushTo_on (a : SlaveAddr) (s : State) : flushTo a (o.on s) = o.on (flushTo a s) := rfl

theorem enablePolicy_on (falls rises : Bool) (s : State) :
    enablePolicy falls rises (o.on s) = o.on (enablePolicy falls rises s) := by
  cases falls <;> cases rises <;> simp [enablePolicy, recompute_on, submit_on]

theorem dmaPolicy_on (old new : Bool) (s : State) : dmaPolicy old new (o.on s) = o.on (dmaPolicy old new s) := by
  rw [dmaPolicy_eq, dmaPolicy_eq]
  split <;> rfl

theorem clearAcknowledgeFailed_on (s : State) : clearAcknowledgeFailed (o.on s) = o.on (clearAcknowledgeFailed s) := by
  cases h : s.acknowledgeFailed with
  | true => rw [clearAcknowledgeFailed_of_set h, clearAcknowledgeFailed_of_set (s := o.on s) h]; rfl
  | false => rw [clearAcknowledgeFailed_of_clear h, clearAcknowledgeFailed_of_clear (s := o.on s) h]

theorem clearAddressSent_on (s : State) : clearAddressSent (o.on s) = o.on (clearAddressSent s) := by
  rw [clearAddressSent, clearAddressSent, apply_ite o.on]
  rfl

theorem dequeue_on (s : State) : dequeue (o.on s) = o.on (dequeue s) := by
  cases h : s.inQ with
  | nil => rw [dequeue_of_nil h, dequeue_of_nil (s := o.on s) h]; rfl
  | cons b rest => rw [dequeue_of_cons h, dequeue_of_cons (s := o.on s) h]; rfl

theorem headByte_on (s : State) : headByte (o.on s) = headByte s := rfl

theorem refillFrom_on (a : SlaveAddr) (s : State) : refillFrom a (o.on s) = o.on (refillFrom a s) := by
  unfold refillFrom submitPulse
  rw [apply_ite o.on, ← submit_on]
  rfl

/-! ## Nor do STOP, START and the two Data operations, as long as the selection they use is the same -/

theorem stop_on {s : State} (h : s.outBuf = [] ∨ o.sel = id) : stop (o.on s) = o.on (stop s) := by
  obtain ⟨-, hn⟩ | ⟨a, ha, hb, -⟩ := stopFlush_cases s
  · have hn' : (o.on s).outBuf = [] ∨ (o.on s).sel = none := by
      obtain hb | hsel := h
      · exact .inl hb
      · exact hn.imp_right fun ha => by rw [Overlay.on, hsel, ha]; rfl
    rw [stop_of_no_flush hn, stop_of_no_flush hn', ← recompute_on]
    rfl
  · have hsel : (o.on s).sel = some a := by rw [Overlay.on, h.resolve_left hb, ha]; rfl
    rw [stop_of_flush ha hb, stop_of_flush (s := o.on s) hsel hb, ← recompute_on]
    rfl

theorem start_on {s : State} (h : s.outBuf = [] ∨ o.sel = id) : start (o.on s) = o.onNext (start s) := by
  by_cases hs : s.txnState = .awaitingAddress
  · rw [start_of_awaitingAddress hs, start_of_awaitingAddress (s := o.on s) hs, Overlay.onNext_next]
  · by_cases hb : s.outBuf = []
    · rw [start_of_no_flush hs hb, start_of_no_flush (s := o.on s) hs hb, beginAddressPhase_on, Overlay.onNext_next]
    · have hsel : (o.on s).sel = s.sel := by rw [Overlay.on, h.resolve_left hb]; rfl
      cases ha : s.sel with
      | none =>
        rw [(start_eq_fault s).mpr ⟨hs, hb, ha⟩, (start_eq_fault (o.on s)).mpr ⟨hs, hb, hsel.trans ha⟩]
        rfl
      | some a =>
        rw [start_of_flush hs hb ha, start_of_flush (s := o.on s) hs hb (hsel.trans ha), flushTo_on,
          beginAddressPhase_on, Overlay.onNext_next]

/-- What a write of Control1 makes of the overlay: the two bits are stored over it. -/
def Overlay.afterControl1 : Overlay := { o with acknowledgeEnable := id, periEn := id }

theorem stoppedBy_on (v : Word) {s : State} (h : s.outBuf = [] ∨ o.sel = id) :
    stoppedBy v (o.on s) = o.afterControl1.on (stoppedBy v s) := by
  cases hv : v[9] with
  | true =>
    rw [stoppedBy_of_stop hv, stoppedBy_of_stop hv]
    exact stop_on o.afterControl1 (s := storeControl1 v s) h
  | false =>
    rw [stoppedBy_of_no_stop hv, stoppedBy_of_no_stop hv]
    rfl

theorem disabledBy_on (v : Word) (s : State) :
    disabledBy v (o.afterControl1.on s) = o.afterControl1.on (disabledBy v s) := by
  rw [disabledBy, disabledBy, apply_ite o.afterControl1.on]
  rfl

theorem stoppedBy_outBuf_of_nil {s : State} (hb : s.outBuf = []) (v : Word) : (stoppedBy v s).outBuf = [] := by
  cases hv : v[9] with
  | true =>
    rw [stoppedBy_of_stop hv, stop_outBuf]
    split
    · exact hb
    · rfl
  | false => rw [stoppedBy_of_no_stop hv]; exact hb

theorem exec_wrControl1_on {v : Word} (hr : v[15] = false) {s : State} (h : s.outBuf = [] ∨ o.sel = id) :
    exec (.wrControl1 v) (o.on s) = o.afterControl1.onNext (exec (.wrControl1 v) s) := by
  cases hg : v[8] with
  | true =>
    have h' : (stoppedBy v s).outBuf = [] ∨ o.afterControl1.sel = id :=
      h.imp_left fun hb => stoppedBy_outBuf_of_nil hb v
    rw [exec_wrControl1_of_start hr hg, exec_wrControl1_of_start hr hg, stoppedBy_on o v h, start_on _ h',
      Overlay.onNext, andThen_assoc, Overlay.onNext_andThen]
    simp only [andThen_next, disabledBy_on]
  | false =>
    rw [exec_wrControl1_of_no_start hr hg, exec_wrControl1_of_no_start hr hg, stoppedBy_on o v h, disabledBy_on,
      Overlay.onNext_next]

/-- What a write of Control2 makes of the overlay: the two fields are stored over it. -/
def Overlay.afterControl2 : Overlay := { o with freq := id, dmaLastTransfer := id }

theorem exec_wrControl2_on (v : Word) (s : State) :
    exec (.wrControl2 v) (o.on s) = o.afterControl2.onNext (exec (.wrControl2 v) s) := by
  rw [exec_wrControl2, exec_wrControl2, Overlay.onNext_next, ← dmaPolicy_on, ← enablePolicy_on]
  rfl

theorem exec_wrData_on (v : Word) {s : State}
    (h : (s.txnState = .awaitingAddress → v.extractLsb' 1 7 ∉ s.params.slaves) ∨ o.sel = id) :
    exec (.wrData v) (o.on s) = o.onNext (exec (.wrData v) s) := by
  cases hs : s.txnState with
  | awaitingAddress =>
    rw [exec_wrData_awaitingAddress v hs, exec_wrData_awaitingAddress (s := o.on s) v hs, Overlay.onNext_next,
      addressPhase, addressPhase, ← submit_on]
    congr 2
    by_cases hf : addressOf (dataByteOf v) ∈ s.params.slaves
    · have hsel : o.sel = id := h.resolve_left fun hn => hn hs (by rwa [← addressOf_dataByteOf])
      rw [if_pos hf, if_pos (show _ ∈ (o.on s).params.slaves from hf), apply_ite o.on]
      unfold selectForRead addressFetch selectForWrite
      simp only [Overlay.on, hsel]
      split_ifs <;> rfl
    · rw [if_neg hf, if_neg (show _ ∉ (o.on s).params.slaves from hf)]
      rfl
  | awaitingData =>
    rw [exec_wrData_awaitingData v hs, exec_wrData_awaitingData (s := o.on s) v hs, Overlay.onNext_next, dataPhase,
      dataPhase, ← submit_on]
    rfl
  | idle =>
    rw [exec_wrData_wrongState v (.inl hs), exec_wrData_wrongState (s := o.on s) v (.inl hs)]
    rfl
  | receivingData =>
    rw [exec_wrData_wrongState v (.inr hs), exec_wrData_wrongState (s := o.on s) v (.inr hs)]
    rfl

/-- What a read makes of the overlay: the value is returned over it. -/
def Overlay.afterRead : Overlay := { o with readData := id }

theorem returnValue_on (v : Word) (s : State) : returnValue v (o.on s) = o.afterRead.on (returnValue v s) := rfl

theorem exec_rdData_on {s : State} (h : s.txnState ≠ .receivingData ∨ o.sel = id) :
    exec .rdData (o.on s) = o.afterRead.onNext (exec .rdData s) := by
  show execRdData (o.on s) = o.afterRead.onNext (execRdData s)
  by_cases hs : s.txnState = .receivingData
  · have hsel : (o.on s).sel = s.sel := by rw [Overlay.on, h.resolve_left (not_not.mpr hs)]; rfl
    by_cases hq : s.inQ.length ≤ 1
    · cases ha : s.sel with
      | none =>
        rw [execRdData_no_slave hs ha hq, execRdData_no_slave (s := o.on s) hs (hsel.trans ha) hq]
        rfl
      | some a =>
        rw [execRdData_refill hs ha hq, execRdData_refill (s := o.on s) hs (hsel.trans ha) hq, dequeue_on,
          refillFrom_on, recompute_on, headByte_on, returnValue_on, Overlay.onNext_next]
    · match hq' : s.inQ with
      | [] => simp [hq'] at hq
      | [b] => simp [hq'] at hq
      | b :: c :: rest =>
        rw [execRdData_more hs hq', execRdData_more (s := o.on s) hs hq', Overlay.onNext_next, ← returnValue_on]
        rfl
  · rw [execRdData_elsewhere hs, execRdData_elsewhere (s := o.on s) hs, dequeue_on, recomputeIfTook, recomputeIfTook,
      recompute_on, Overlay.onNext_next, ← returnValue_on, headByte_on, apply_ite o.on]
    rfl

theorem exec_rdStatus1_on (s : State) : exec .rdStatus1 (o.on s) = o.afterRead.onNext (exec .rdStatus1 s) := by
  rw [exec_rdStatus1, exec_rdStatus1, clearAcknowledgeFailed_on, Overlay.onNext_next, ← returnValue_on, apply_ite o.on]
  rfl

theorem exec_wrStatus1_on (v : Word) (s : State) : exec (.wrStatus1 v) (o.on s) = o.onNext (exec (.wrStatus1 v) s) := by
  rw [exec_wrStatus1, exec_wrStatus1, clearAcknowledgeFailed_on, Overlay.onNext_next, apply_ite o.on]

theorem exec_rdStatus2_on (s : State) : exec .rdStatus2 (o.on s) = o.afterRead.onNext (exec .rdStatus2 s) := by
  rw [exec_rdStatus2, exec_rdStatus2, clearAddressSent_on, Overlay.onNext_next, ← returnValue_on]
  rfl

/-- QUIESCE runs what is pending, so the overlay must add nothing to it. -/
theorem exec_quiesce_on (h : o.pending = []) (s : State) : exec .quiesce (o.on s) = o.onNext (exec .quiesce s) := by
  have pending : (o.on s).pending = s.pending := by rw [Overlay.on, h]; rfl
  have emptied : { o.on s with pending := [] } = o.on { s with pending := [] } := by simp [Overlay.on, h]
  have action (a : Action) (u : State) : runAction a (o.on u) = o.on (runAction a u) := by cases a <;> rfl
  rw [exec_quiesce, exec_quiesce, Overlay.onNext_next, pending, runPending_eq_foldl, runPending_eq_foldl, emptied]
  exact congrArg Host.Outcome.next (List.foldl_hom o.on fun u a => action a u)

end

/-! ## What is pending (R193) -/

/-- Actions put before those pending. -/
def earlierPending (p : List Action) : Overlay := { pending := p }

theorem exec_earlierPending {i : Instr} (hi : i ≠ .quiesce) (p : List Action) (s : State) :
    exec i ((earlierPending p).on s) = (earlierPending p).onNext (exec i s) := by
  cases i with
  | wrControl1 v =>
    cases hr : v[15] with
    | true => rw [exec_wrControl1_of_reset hr, exec_wrControl1_of_reset hr]; rfl
    | false => exact exec_wrControl1_on _ hr (.inr rfl)
  | wrControl2 v => exact exec_wrControl2_on _ v s
  | rdData => exact exec_rdData_on _ (.inr rfl)
  | wrData v => exact exec_wrData_on _ v (.inr rfl)
  | rdStatus1 => exact exec_rdStatus1_on _ s
  | wrStatus1 v => exact exec_wrStatus1_on _ v s
  | rdStatus2 => exact exec_rdStatus2_on _ s
  | quiesce => exact absurd rfl hi
  | _ => rfl

/-- Settles O44: what an operation submits with nothing pending, it appends to whatever is pending; and QUIESCE is the
loop of R191. -/
theorem deferredActionsWaitForQuiesceInOrder : Obligations.DeferredActionsWaitForQuiesceInOrder := by
  refine ⟨fun i s t hi h => ?_, fun s => by rw [exec_quiesce, runPending_eq_foldl]⟩
  have after (p : List Action) : exec i { s with pending := p }
      = (earlierPending p).onNext (exec i { s with pending := [] }) := by
    rw [← exec_earlierPending hi]
    simp only [Overlay.on, earlierPending, id, List.append_nil]
  obtain ⟨u, hu, ht⟩ := andThen_eq_next ((after s.pending).symm.trans h)
  cases ht
  exact ⟨u.pending, rfl, fun p => by rw [after, hu]; rfl⟩

/-! ## Stored-only fields (R41, R221, R222) -/

/-- The overlay of `coreOf`: it wipes what no rule reads. -/
def wiped : Overlay where
  acknowledgeEnable := fun _ => false
  periEn := fun _ => false
  freq := fun _ => 0
  dmaLastTransfer := fun _ => false
  ownAddress1 := fun _ => 0
  ownAddress2 := fun _ => 0
  clockControl := fun _ => 0
  riseTime := fun _ => 0
  noiseFilter := fun _ => 0
  readData := fun _ => none

theorem coreOf_eq (s : State) : coreOf s = wiped.on s := rfl

/-- A store over the overlay is wiped with the rest. -/
theorem wiped_onNext_absorbs {o : Overlay} (h : ∀ u, wiped.on (o.on u) = wiped.on u) (r : Result) :
    wiped.onNext (o.onNext r) = wiped.onNext r := by
  simp only [Overlay.onNext, andThen_assoc, andThen_next, h]

theorem exec_wiped (i : Instr) (s : State) : wiped.onNext (exec i (wiped.on s)) = wiped.onNext (exec i s) := by
  cases i with
  | wrControl1 v =>
    cases hr : v[15] with
    | true => rw [exec_wrControl1_of_reset hr, exec_wrControl1_of_reset hr]; rfl
    | false => rw [exec_wrControl1_on wiped hr (.inr rfl)]; exact wiped_onNext_absorbs (fun _ => rfl) _
  | wrControl2 v => rw [exec_wrControl2_on]; exact wiped_onNext_absorbs (fun _ => rfl) _
  | rdData => rw [exec_rdData_on wiped (.inr rfl)]; exact wiped_onNext_absorbs (fun _ => rfl) _
  | wrData v => rw [exec_wrData_on wiped v (.inr rfl)]; exact wiped_onNext_absorbs (fun _ => rfl) _
  | rdStatus1 => rw [exec_rdStatus1_on]; exact wiped_onNext_absorbs (fun _ => rfl) _
  | wrStatus1 v => rw [exec_wrStatus1_on]; exact wiped_onNext_absorbs (fun _ => rfl) _
  | rdStatus2 => rw [exec_rdStatus2_on]; exact wiped_onNext_absorbs (fun _ => rfl) _
  | quiesce => rw [exec_quiesce_on wiped rfl]; exact wiped_onNext_absorbs (fun _ => rfl) _
  | _ => rfl

/-- Settles O59: both runs are the run of the common core, once the stored-only fields are wiped. -/
theorem storedOnlyFieldsInfluenceNothing : Obligations.StoredOnlyFieldsInfluenceNothing := by
  intro i s s' t hcore h
  have run : wiped.onNext (exec i s') = .next (coreOf t) := by
    rw [← exec_wiped, ← coreOf_eq, ← hcore, coreOf_eq, exec_wiped, h]
    rfl
  obtain ⟨t', ht', heq⟩ := andThen_eq_next run
  exact ⟨t', ht', (Host.Outcome.next.inj heq).symm⟩

/-! ## The selection left over (R36, R44) -/

/-- Another selected slave, or none. -/
def otherSelection (x : Option SlaveAddr) : Overlay := { sel := fun _ => x }

/-- An address phase selects its own slave, whatever was selected before (R145). -/
theorem addressPhase_of_found {b : Byte} {s : State} (hf : addressOf b ∈ s.params.slaves) (x : Option SlaveAddr) :
    addressPhase b { s with sel := x } = addressPhase b s := by
  have hf' : addressOf b ∈ ({ s with sel := x } : State).params.slaves := hf
  rw [addressPhase, addressPhase, if_pos hf, if_pos hf']
  rfl

/-- With no bytes collected and no transaction open, an operation that does not set the selection does not see it. -/
theorem exec_otherSelection (i : Instr) {s : State} (x : Option SlaveAddr) (hs : s.txnState ≠ .receivingData)
    (hb : s.outBuf = []) (hreset : isResetOp i = false)
    (haddr : isAddressOp s i = true → addressFound s i = false) :
    exec i ((otherSelection x).on s) = (otherSelection x).onNext (exec i s) := by
  cases i with
  | wrControl1 v => exact exec_wrControl1_on _ hreset (.inl hb)
  | wrControl2 v => exact exec_wrControl2_on _ v s
  | rdData => exact exec_rdData_on _ (.inl hs)
  | wrData v =>
    refine exec_wrData_on _ v (.inl fun hw => ?_)
    simpa [addressFound] using haddr (by simp [isAddressOp, hw])
  | rdStatus1 => exact exec_rdStatus1_on _ s
  | wrStatus1 v => exact exec_wrStatus1_on _ v s
  | rdStatus2 => exact exec_rdStatus2_on _ s
  | quiesce => exact exec_quiesce_on _ rfl s
  | reset => cases hreset
  | _ => rfl

/-- A reset and an address phase that finds its slave end alike from any selection. -/
theorem exec_withSel_of_selects {i : Instr} {s : State} (x : Option SlaveAddr)
    (op : isResetOp i = true ∨ (isAddressOp s i = true ∧ addressFound s i = true)) :
    exec i { s with sel := x } = exec i s := by
  cases i with
  | wrControl1 v =>
    have hr : v[15] = true := by simpa [isResetOp, isAddressOp] using op
    rw [exec_wrControl1_of_reset hr, exec_wrControl1_of_reset hr]
    rfl
  | wrData v =>
    obtain ⟨hs, hf⟩ : s.txnState = .awaitingAddress ∧ addressOf (dataByteOf v) ∈ s.params.slaves := by
      simpa [isResetOp, isAddressOp, addressFound] using op
    rw [exec_wrData_awaitingAddress v hs, exec_wrData_awaitingAddress (s := { s with sel := x }) v hs,
      addressPhase_of_found hf]
  | reset => rfl
  | _ => simp [isResetOp, isAddressOp] at op

/-- With no transaction open and no slave found, none is open after the operation either (R140). -/
theorem txnAfter_closed {i : Instr} {s : State} (hs : s.txnState = .idle ∨ s.txnState = .awaitingAddress)
    (haddr : isAddressOp s i = true → addressFound s i = false) :
    txnAfter s i = .idle ∨ txnAfter s i = .awaitingAddress := by
  cases i with
  | wrControl1 v =>
    simp only [txnAfter]
    split_ifs
    · exact .inl rfl
    · exact .inr rfl
    · exact .inl rfl
    · exact hs
  | wrData v =>
    by_cases hw : s.txnState = .awaitingAddress
    · have hf : addressOf (dataByteOf v) ∉ s.params.slaves := by
        simpa [addressFound] using haddr (by simp [isAddressOp, hw])
      exact .inl (by rw [txnAfter, if_pos hw, if_neg hf])
    · simp only [txnAfter, if_neg hw]
      exact hs
  | reset => exact .inl rfl
  | _ => exact hs

/-- Settles O60: an operation either sets the selection, or does not see it and keeps the situation. -/
theorem aLingeringSelectionIsNotObservable : Obligations.ALingeringSelectionIsNotObservable := by
  intro i s t x hs hb h
  by_cases op : isResetOp i = true ∨ (isAddressOp s i = true ∧ addressFound s i = true)
  · exact .inl ((exec_withSel_of_selects x op).trans h)
  · right
    simp only [not_or, not_and, Bool.not_eq_true] at op
    obtain ⟨hreset, haddr⟩ := op
    have hnot : s.txnState ≠ .receivingData := by obtain hs | hs := hs <;> simp [hs]
    have htxn : t.txnState = .idle ∨ t.txnState = .awaitingAddress := exec_txnState h ▸ txnAfter_closed hs haddr
    refine ⟨?_, htxn, ?_⟩
    · have run := exec_otherSelection i x hnot hb hreset haddr
      rw [h] at run
      exact run
    · exact (exec_bufferEffect h).outBuf_nil (exec_txnState h) (fun hbytes => absurd hb hbytes)
        (by obtain ht | ht := htxn <;> simp [ht])

end Sys2Proof.Machine
end

section
/-! PROOFS. Steps and the accesses they take (R61 to R63, R80). -/

namespace Sys2Proof.Machine

/-- Settles O1: a step runs an access that is an operation, and an operation laid out for the bus decodes to itself. -/
theorem stepRunsTheIssuedOperation : Obligations.StepRunsTheIssuedOperation :=
  ⟨fun _ _ _ _ h hd => step_operation h hd, fun _ o _ h => step_operation h (decodeAccess_accessOf o),
    fun _ h => step_idle h⟩

/-! ## Accesses that are no operation -/

theorem decodeAccess_of_wf {a : Access} (h : a.wf = true) : ∃ i, decodeAccess a = .ok i ∧ i.wf = true := by
  obtain ⟨o, ho⟩ := route_of_wf a h
  exact ⟨decode o, by rw [decodeAccess, ho], decode_wf o⟩

theorem decodeAccess_outside {a : Access} (hk : a.kind = .rd ∨ a.kind = .wr) (h : 0x400 ≤ a.offset) :
    decodeAccess a = .error .outside := by
  obtain hk | hk := hk <;> simp [decodeAccess, route, hk, Config.deviceSize, h]

theorem decodeAccess_narrow {a : Access} (hk : a.kind = .rd ∨ a.kind = .wr) (h : a.offset < 0x400)
    (hw : a.width ≠ .word) : decodeAccess a = .error .narrow := by
  have inside : ¬ 0x400 ≤ a.offset := by omega
  obtain hk | hk := hk <;> simp [decodeAccess, route, hk, Config.deviceSize, inside, hw]

/-- From a sound state a bus-layer translation completes: each of its accesses returns in a sound state (log 9). -/
theorem runBus_completes {k : OpKind} {before : Option Word} (p : BusProgram) {s : State} (hsound : s.Sound) :
    ∃ t, runBus k before p s = .next t := by
  induction p generalizing s with
  | done r => exact ⟨_, rfl⟩
  | rd off next ih =>
    obtain ⟨u, hu, husound⟩ := everyOperationReturnsInASoundState s (decodeRead off) hsound
    rw [runBus_rd, hu]
    exact ih _ husound
  | wr off v next ih =>
    obtain ⟨u, hu, husound⟩ := everyOperationReturnsInASoundState s (decodeWrite off v) hsound
    rw [runBus_wr, hu]
    exact ih husound

theorem issueAt_inside {s : State} {off : Nat} (h : off < 0x400) (kind : OpKind) (width : Width) (v : Word) :
    issueAt kind width (s.params.base + off) v s = issue ⟨kind, width, off, v⟩ s := by
  have inside : offsetAt s.params (s.params.base + off) = some off := offsetAt_addressAt s.params h
  rw [issueAt, inside]

theorem issueAt_outside {s : State} {addr : Nat} (h : addr < s.params.base ∨ s.params.base + 0x400 ≤ addr)
    (kind : OpKind) (width : Width) (v : Word) : issueAt kind width addr v s = s := by
  rw [issueAt, offsetAt_outside h]

/-- Settles O2: what routing says of an access decides the step, and a translation completes because every operation
does. -/
theorem onlyWordAccessesInsideTheWindowAreOperations : Obligations.OnlyWordAccessesInsideTheWindowAreOperations := by
  refine ⟨fun a h => decodeAccess_of_wf h, fun s a rest hreq hk => ⟨fun hoff => ?_, fun hoff hw hp => ?_,
    fun hoff hw hp => ?_⟩, fun s kind width v => ⟨fun off h => issueAt_inside h kind width v,
      fun addr h => issueAt_outside h kind width v⟩⟩
  · rw [step_unrouted hreq (decodeAccess_outside hk hoff)]
    rfl
  · simp only [step_unrouted hreq (decodeAccess_narrow hk hoff hw), unrouted, hp]
  · refine ⟨by simp only [step_unrouted hreq (decodeAccess_narrow hk hoff hw), unrouted, hp], fun hsound => ?_⟩
    obtain ⟨t, ht⟩ := runBus_completes (k := a.kind) (before := s.readData) (Config.busLayer a)
      ((sound_withRequests s rest).mpr hsound)
    obtain ⟨ops, u, r, hops, hrun, hend⟩ := runBus_operations _ ht
    exact ⟨ops, u, r, hops, hrun, by rw [ht, hend]; rfl⟩

end Sys2Proof.Machine
end

section
/-! PROOFS. Sequences of operations: a failed address, a STOP before QUIESCE, a whole write transaction (R211, R245,
R247). -/

namespace Sys2Proof.Machine

/-! ## The interrupt lines at the QUIESCE after an operation -/

/-- After a QUIESCE that ran a recompute ErrorInterrupt is Error of the fields before it, which no action changes. -/
theorem runPending_errorInterrupt {as : List Action} (h : .recompute ∈ as) (s : State) :
    (runPending as s).lines.errorInterrupt = (s.errorInterruptEnable && s.acknowledgeFailed) := by
  have current : InterruptsCurrent (runPending as s) := interruptsCurrent_runPending (.inl h)
  obtain ⟨ls, log, shape⟩ := runPending_fields as s
  rw [current.2, shape]
  rfl

/-- Settles O48: the nack, and the write that arms the enable, each leave a recompute pending. -/
theorem failedAddressRaisesErrorInterruptAtQuiesce : Obligations.FailedAddressRaisesErrorInterruptAtQuiesce := by
  refine ⟨fun s v hs hf => ?_, fun s v hfailed hdisabled harm hevent hbuffer => ?_⟩
  · have write := unregisteredAddressIsNotAcknowledged s v hs hf
    refine ⟨_, _, write, rfl, exec_quiesce _, runPending_txnState _ _, ?_, ?_⟩
    · obtain ⟨ls, log, shape⟩ := runPending_fields (s.pending ++ [.recompute])
        { s with startBit := false, acknowledgeFailed := true, txnState := .idle, pending := s.pending ++ [.recompute] }
      rw [shape]
    · rw [runPending_errorInterrupt (by simp)]
      exact Bool.and_true _
  · obtain ⟨ls, log, p, write⟩ := execWrControl2_shape v s
    have hfall : enableFalls s v = false := enableFalls_eq_false (fun _ => harm) hevent hbuffer
    have hrise : enableRises s v = true := (enableRises_iff s v).mpr (.inl ⟨hdisabled, harm⟩)
    have hpending := wrControl2_pending write
    rw [if_pos hrise] at hpending
    refine ⟨_, _, write, (wrControl2_interrupts_of_no_fall hfall write).2, exec_quiesce _, ?_⟩
    rw [runPending_errorInterrupt (by rw [hpending]; simp)]
    show (v[8] && s.acknowledgeFailed) = true
    rw [harm, hfailed, Bool.and_self]

/-- What a STOP, with or without a peripheral-disable, leaves of what QUIESCE and Event read (R142, R150). -/
theorem exec_stop_keeps {v : Word} (hr : v[15] = false) (hstop : v[9] = true) (hstart : v[8] = false) (s : State) :
    ∃ u, exec (.wrControl1 v) s = .next u ∧ u.txnState = .idle ∧ u.pending = s.pending ∧
      u.eventInterruptEnable = s.eventInterruptEnable := by
  refine ⟨_, exec_wrControl1_of_no_start hr hstart s, ?_⟩
  rw [stoppedBy_of_stop hstop, disabledBy]
  obtain ⟨ls, log, ⟨-, h⟩ | ⟨a, -, -, h⟩⟩ := stop_cases (storeControl1 v s) <;> rw [h] <;> split <;>
    exact ⟨rfl, rfl, rfl⟩

/-- Settles O52: the completion pending before the STOP runs after it, and sets the flags that the STOP cleared. -/
theorem stopBeforeQuiesceLeavesTheFlagsSet : Obligations.StopBeforeQuiesceLeavesTheFlagsSet := by
  intro s v hdone hr hstop hstart
  obtain ⟨u, hu, htxn, hpending, henable⟩ := exec_stop_keeps hr hstop hstart s
  refine ⟨runPending u.pending u, by simp only [runOps, hu, andThen_next, exec_quiesce], ?_⟩
  have current : InterruptsCurrent (runPending u.pending u) :=
    interruptsCurrent_runPending (.inr (.inl (hpending ▸ hdone)))
  have done : u.pending.contains .dataWriteDone = true := by rw [hpending]; simpa using hdone
  obtain ⟨ls, log, shape⟩ := runPending_fields u.pending u
  rw [done] at shape
  rw [shape] at current ⊢
  refine ⟨htxn, Bool.or_true _, Bool.or_true _, ?_⟩
  rw [current.1, ← henable]
  simp [eventLevel]

/-! ## A write transaction -/

theorem runOps_append (is js : List Instr) (s : State) : runOps (is ++ js) s = andThen (runOps is s) (runOps js) := by
  induction is generalizing s with
  | nil => rfl
  | cons i is ih => simp only [List.cons_append, runOps, andThen_assoc, funext ih]

/-- A write transaction to the slave a is open: these bytes are collected, and the slave calls are these. -/
structure Collecting (a : SlaveAddr) (bytes : List Byte) (calls : List SlaveCall) (s : State) : Prop where
  txnState : s.txnState = .awaitingData
  sel : s.sel = some a
  outBuf : s.outBuf = bytes
  slaveLog : s.slaveLog = calls

theorem Collecting.not_lacksSlave {a : SlaveAddr} {bytes : List Byte} {calls : List SlaveCall} {s : State}
    (hc : Collecting a bytes calls s) (i : Instr) : ¬ LacksSlave i s := by
  rintro ⟨hsel, -⟩
  simp [hc.sel] at hsel

/-- Every operation that neither ends nor begins a transaction collects the byte it sends, if any, and calls no slave. -/
theorem Collecting.step {a : SlaveAddr} {bytes : List Byte} {calls : List SlaveCall} {s : State} {i : Instr}
    (hc : Collecting a bytes calls s) (hi : keepsTransaction i = true) :
    ∃ t, exec i s = .next t ∧ Collecting a (bytes ++ (sentByte i).toList) calls t := by
  obtain ⟨t, ht⟩ := (exec_outcome i s).1 (hc.not_lacksSlave i)
  refine ⟨t, ht, ?_⟩
  have same (hn : sentByte i = none) : Collecting a (bytes ++ (sentByte i).toList) calls s := by
    rw [hn, Option.toList_none, List.append_nil]
    exact hc
  obtain ⟨htxn, hsel, hbuf, hlog⟩ := hc
  cases exec_effect ht with
  | reset op =>
    cases i with
    | reset => cases hi
    | wrControl1 v => cases hi
    | _ => cases op
  | control1 => cases hi
  | takenMoreLeft txn => simp [htxn] at txn
  | refilled txn => simp [htxn] at txn
  | nacked txn => simp [htxn] at txn
  | selectedForWriting txn => simp [htxn] at txn
  | selectedForReading txn => simp [htxn] at txn
  | fetched txn => simp [htxn] at txn
  | byteIgnored txn => simp [htxn] at txn
  | byteCollected => exact ⟨htxn, hsel, by rw [hbuf]; rfl, hlog⟩
  | failedCleared op =>
    have noData : sentByte i = none := by obtain ⟨v, rfl, -⟩ | ⟨rfl, -⟩ := op <;> rfl
    exact { same noData with }
  | registerOnly noData => exact { same noData with }
  | control2 | nothingQueued | leftOverTaken | sentCleared | quiesced => exact { same rfl with }

/-- So a sequence of them collects what it sends, in order. -/
theorem Collecting.run {a : SlaveAddr} {calls : List SlaveCall} (ops : List Instr) {bytes : List Byte} {s : State}
    (hc : Collecting a bytes calls s) (hops : ∀ i ∈ ops, keepsTransaction i = true) :
    ∃ t, runOps ops s = .next t ∧ Collecting a (bytes ++ ops.filterMap sentByte) calls t := by
  induction ops generalizing bytes s with
  | nil => exact ⟨s, rfl, by simpa using hc⟩
  | cons i is ih =>
    obtain ⟨u, hu, hcu⟩ := hc.step (hops i List.mem_cons_self)
    obtain ⟨t, ht, hct⟩ := ih hcu fun j hj => hops j (List.mem_cons_of_mem i hj)
    refine ⟨t, by rw [runOps, hu, andThen_next, ht], ?_⟩
    have sent : (i :: is).filterMap sentByte = (sentByte i).toList ++ is.filterMap sentByte := by
      rw [List.filterMap_cons]
      cases sentByte i <;> rfl
    rw [sent, ← List.append_assoc]
    exact hct

/-- With nothing collected a START goes on to the address phase and calls no slave, whatever else its write carries. -/
theorem exec_start_of_empty {v : Word} (hr : v[15] = false) (hstart : v[8] = true) {s : State} (hb : s.outBuf = []) :
    ∃ u, exec (.wrControl1 v) s = .next u ∧ u.txnState = .awaitingAddress ∧ u.slaveLog = s.slaveLog ∧
      u.params = s.params := by
  obtain ⟨u, hu⟩ := (exec_outcome (.wrControl1 v) s).1 fun ⟨_, hl⟩ => by simp [hb] at hl
  refine ⟨u, hu, ?_, ?_, (execWrControl1_frame hr hu).params⟩
  · rw [exec_txnState hu]
    simp [txnAfter, hr, hstart]
  · cases keptOrFlushed_execWrControl1 hr hu with
    | kept _ log _ => exact log
    | flushed _ _ bytes => exact absurd hb bytes

/-- A STOP ends an open transaction with one `Write` of the bytes collected, or with none when there are none. -/
theorem Collecting.stop {a : SlaveAddr} {bytes : List Byte} {calls : List SlaveCall} {s : State} {v : Word}
    (hc : Collecting a bytes calls s) (hr : v[15] = false) (hstop : v[9] = true) :
    ∃ t, exec (.wrControl1 v) s = .next t ∧
      t.slaveLog = calls ++ (if bytes = [] then [] else [.write a bytes]) ∧ t.outBuf = [] ∧
      t.txnState = if v[8] then .awaitingAddress else .idle := by
  obtain ⟨t, ht⟩ := (exec_outcome (.wrControl1 v) s).1 (hc.not_lacksSlave _)
  have htxn : t.txnState = if v[8] then .awaitingAddress else .idle := by
    rw [exec_txnState ht]
    simp [txnAfter, hr, hstop]
  refine ⟨t, ht, ?_⟩
  obtain ⟨hopen, hsel, rfl, rfl⟩ := hc
  cases keptOrFlushed_execWrControl1 hr ht with
  | kept buf log holds =>
    have hempty : s.outBuf = [] := by
      by_contra hb
      have := holds hb (by simp [hsel]) hopen
      rw [htxn] at this
      split at this <;> cases this
    exact ⟨by simp [log, hempty], buf.trans hempty, htxn⟩
  | flushed b sel nonempty buf log =>
    obtain rfl : a = b := Option.some.inj (hsel.symm.trans sel)
    exact ⟨by rw [log, if_neg nonempty], buf, htxn⟩

/-- Settles O34: START and the address byte open the transaction with nothing collected, the operations between collect
what they send, and the STOP flushes it. -/
theorem writeTransactionDeliversItsBytes : Obligations.WriteTransactionDeliversItsBytes := by
  intro s start addr stop ops hb hr hstart hdir hfound hops hr' hstop
  obtain ⟨u, hu, hutxn, hulog, huparams⟩ := exec_start_of_empty hr hstart hb
  rw [← huparams] at hfound
  have hw := addressPhaseForWriting u addr hutxn hdir hfound
  have opened : Collecting (addr.extractLsb' 1 7) [] s.slaveLog { u with
      startBit := false, sel := some (addr.extractLsb' 1 7), addressSentOrMatched := true, transmitterReceiver := true
      outBuf := [], dataRegisterEmpty := true, txnState := .awaitingData, pending := u.pending ++ [.recompute] } :=
    ⟨rfl, rfl, rfl, hulog⟩
  obtain ⟨x, hx, collected⟩ := opened.run ops hops
  obtain ⟨t, ht, hlog, hbuf, htxn⟩ := collected.stop hr' hstop
  refine ⟨t, ?_, hlog, hbuf, htxn⟩
  rw [runOps, hu, andThen_next, runOps, hw, andThen_next, runOps_append, hx, andThen_next, runOps, ht, andThen_next,
    runOps]

end Sys2Proof.Machine
end
